-- ==== Sys2Proof/Word.lean ====
section
/-! DEFINITION. The word types of the LQ416 and the forward distance of its position conventions. -/

namespace Sys2Proof

/-- One byte of a frame (spec/10, R183). -/
abbrev Byte := BitVec 8

/-- A value of the position counter, 0 to 65535, wrapping (spec/00 Conventions, Positions; R16). -/
abbrev Pos := BitVec 16

/-- A store number (R20): 1 to 65535 names a sheet, 0 names none. -/
abbrev StoreNo := BitVec 16

/-- A lot number (R1). -/
abbrev LotNo := BitVec 16

/-- A line sheet ID (R1). -/
abbrev LineId := BitVec 32

/-- A recipe number (R124). -/
abbrev RecipeNo := BitVec 16

/-- A swap serial (R59), wrapping from 65535 to 0 (R68). -/
abbrev Serial := BitVec 16

/-- The forward distance from position `p` to position `x`, `(x - p)` modulo 65536
(spec/00 Conventions, Positions). -/
def forwardDistance (p x : Pos) : Nat := (x - p).toNat

end Sys2Proof
end

