-- ==== Sys2Proof/Config.lean ====
section
/-! DEFINITION. The fixed sizes and limits of the LQ416, each with the rule that fixes it. The spec leaves no
value of the part open, so there is no free value. -/

namespace Sys2Proof.Config

/-- Fitted bins are numbered 1 to 16 (spec/00 Conventions). -/
abbrev binCount : Nat := 16
/-- Scan lanes are numbered 0 to 7 (spec/00 Conventions). -/
abbrev laneCount : Nat := 8
/-- The report queue holds at most four waiting reports (R4). -/
def reportQueueDepth : Nat := 4
/-- The tracking queue holds at most 24 records (R21). -/
def trackingQueueDepth : Nat := 24
/-- The greatest backlash; a reverse step past it is a reversal fault (R17, R18). -/
def backlashMax : Nat := 200
/-- An object of smaller eye length is a fragment (R22). -/
def fragmentLength : Nat := 300
/-- The travel past the leading edge at which an object is long (R23). -/
def longObjectTravel : Nat := 3000
/-- The eye length saturates here (R22). -/
def eyeLengthMax : Nat := 65535
/-- A lane error count saturates here (R6). -/
def laneErrorMax : Nat := 16777215
/-- A statistics counter saturates here (R208). -/
def counterMax : Nat := 4294967295
/-- The defect density saturates here (R45). -/
def densityMax : Nat := 65535
/-- A defect scores points for at most this size (R43). -/
def scoredSizeMax : Nat := 255
/-- A report lists at most 24 defects (R1). -/
def defectMax : Nat := 24
/-- The greatest length byte of a frame the part takes (R184, R189). -/
def payloadMax : Nat := 120
/-- An outcome queue holds at most eight records (R199). -/
def outcomeQueueDepth : Nat := 8
/-- The lot hold list holds at most eight lots (R116). -/
def lotHoldMax : Nat := 8
/-- A bin has at most three inbound sheets: the Router admits one to a bin with 0, 1 or 2 (R77, R93). -/
def inboundAdmit : Nat := 2
/-- A recipe queue holds at most two recipes (R123). -/
def recipeQueueDepth : Nat := 2
/-- A recipe holds at most 15 plies (R124). -/
def plyMax : Nat := 15
/-- READ TRACKING returns at most seven records (R33). -/
def trackingReadMax : Nat := 7
/-- How many times a search round may take a feeder in the model. The round of R153 ends by itself after far fewer: it
makes at most ten grants, and between two grants each feeder changes its target a few times (DESIGN CHOICE, log entry
10). -/
def searchRoundTurns : Nat := 200

end Sys2Proof.Config
end

