-- ==== Sys2Proof/Syntax.lean ====
section
/-! DEFINITION. The commands of the LQ416: one constructor of `Instr` for each row of spec/opcode_table.json,
in the table's order. A request row carries the port that took its frame and the frame itself after the code
byte; an event row carries what tells the event from others of its kind. -/

namespace Sys2Proof

/-- The two layup feeders (spec/00 Conventions). -/
inductive Feeder where
  | A
  | B
  deriving DecidableEq, Repr

/-- The three SPI ports: the Line Port, Feeder Port A and Feeder Port B (spec/10). -/
inductive Port where
  | line
  | feeder (f : Feeder)
  deriving DecidableEq, Repr

/-- A bin, by its place 0 to 15; bin `b` of the spec is the place `b - 1`. -/
abbrev BinId := Fin 16

/-- A scan lane, 0 to 7. -/
abbrev LaneId := Fin 8

/-- The level of DIR at an encoder pulse: high is forward, low is reverse (R16). -/
inductive Direction where
  | forward
  | reverse
  deriving DecidableEq, Repr

/-- A complete request frame after its code byte: the length byte, the payload and the check byte (R184). -/
structure Frame where
  length : Byte
  payload : List Byte
  check : Byte
  deriving DecidableEq, Repr

/-- The levels the part samples as RESET returns high: EYE, and the select of each port (R19, R181, R182). -/
structure ResetLevels where
  eyeHigh : Bool
  lineSelLow : Bool
  feederASelLow : Bool
  feederBSelLow : Bool
  deriving DecidableEq, Repr

/-- The commands of the block, one for each row of spec/opcode_table.json. -/
inductive Instr where
  | sheetReport (p : Port) (f : Frame)
  | lineRestart (p : Port) (f : Frame)
  | readTracking (p : Port) (f : Frame)
  | ruleWrite (p : Port) (f : Frame)
  | ruleRead (p : Port) (f : Frame)
  | ruleSwap (p : Port) (f : Frame)
  | armedSwapExchange
  | layoutWrite (p : Port) (f : Frame)
  | layoutRead (p : Port) (f : Frame)
  | enterRun (p : Port) (f : Frame)
  | enterSetup (p : Port) (f : Frame)
  | binRead (p : Port) (f : Frame)
  | stackRead (p : Port) (f : Frame)
  | binDrain (p : Port) (f : Frame)
  | binService (p : Port) (f : Frame)
  | binLock (p : Port) (f : Frame)
  | binUnload (p : Port) (f : Frame)
  | binRemoveTop (p : Port) (f : Frame)
  | resolveLanded (p : Port) (f : Frame)
  | resolveLost (p : Port) (f : Frame)
  | resolveClear (p : Port) (f : Frame)
  | lotHold (p : Port) (f : Frame)
  | lotRelease (p : Port) (f : Frame)
  | lotList (p : Port) (f : Frame)
  | recipeLoad (p : Port) (f : Frame)
  | recipeRead (p : Port) (f : Frame)
  | feederSetup (p : Port) (f : Frame)
  | plyCall (p : Port) (f : Frame)
  | patchCall (p : Port) (f : Frame)
  | pickDone (p : Port) (f : Frame)
  | pickFailed (p : Port) (f : Frame)
  | feederStop (p : Port) (f : Frame)
  | callStatus (p : Port) (f : Frame)
  | fetchOutcome (p : Port) (f : Frame)
  | readFlags (p : Port) (f : Frame)
  | clearFlags (p : Port) (f : Frame)
  | setMask (p : Port) (f : Frame)
  | readCounters (p : Port) (f : Frame)
  | clearCounters (p : Port) (f : Frame)
  | readLanes (p : Port) (f : Frame)
  /-- A complete frame with the code byte `code`, which names no request (R189). -/
  | badRequest (p : Port) (code : Byte) (f : Frame)
  /-- SEL rises with the bytes `taken` complete, at least one and fewer than the frame has (R187). -/
  | frameGivenUp (p : Port) (taken : List Byte)
  | replyReady (p : Port)
  | replyCutOff (p : Port)
  | deviceReset (levels : ResetLevels)
  | encPulse (d : Direction)
  /-- The reverse encoder pulse whose step would bring the backlash to 201 (R18). -/
  | reversalFault
  | eyeLeadingEdge
  | eyeTrailingEdge
  | longObject
  /-- P reaches the expiry position of the record of store number `n` (R24). -/
  | decisionExpiry (n : StoreNo)
  /-- P reaches the end-of-line position of the record of store number `n` (R25). -/
  | endOfLine (n : StoreNo)
  | pairingDecision
  | gradingCompletion
  | gateOpen (b : BinId)
  | gateClose (b : BinId)
  | landPulse (b : BinId)
  /-- The landing window of the in-flight record of bin `b` with store number `n` expires (R101). -/
  | windowExpiry (b : BinId) (n : StoreNo)
  | waitExpiry (f : Feeder)
  | selFall (p : Port)
  | emptySelection (p : Port)
  | replyCheckByteSent (p : Port)
  | transactionEnd (p : Port)
  | discardingRelease (p : Port)
  deriving DecidableEq, Repr

end Sys2Proof
end

