-- ==== Sys2Proof/Decode.lean ====
section
/-! DEFINITION. The opcode table gives no row any bits, so a table word spells no command. What the block does
decode is a request frame: its code byte names the request (R184, R191). That decoding, and the bytes of a
request command's frame, stand here beside `decodeTableWord`. -/

namespace Sys2Proof

/-- The command a table word spells. spec/opcode_table.json gives no row a bit pattern, so no word spells one. -/
def decodeTableWord (_nbits _w : Nat) : Option Instr := none

/-- The code byte, port and rest of the frame of a request command; none for an event (R191). -/
def Instr.request? : Instr → Option (Port × Byte × Frame)
  | .sheetReport p f => some (p, 0x01, f)
  | .lineRestart p f => some (p, 0x02, f)
  | .readTracking p f => some (p, 0x03, f)
  | .ruleWrite p f => some (p, 0x10, f)
  | .ruleRead p f => some (p, 0x11, f)
  | .ruleSwap p f => some (p, 0x12, f)
  | .layoutWrite p f => some (p, 0x18, f)
  | .layoutRead p f => some (p, 0x19, f)
  | .enterRun p f => some (p, 0x1A, f)
  | .enterSetup p f => some (p, 0x1B, f)
  | .binRead p f => some (p, 0x20, f)
  | .stackRead p f => some (p, 0x21, f)
  | .binDrain p f => some (p, 0x22, f)
  | .binService p f => some (p, 0x23, f)
  | .binLock p f => some (p, 0x24, f)
  | .binUnload p f => some (p, 0x26, f)
  | .binRemoveTop p f => some (p, 0x27, f)
  | .resolveLanded p f => some (p, 0x28, f)
  | .resolveLost p f => some (p, 0x28, f)
  | .resolveClear p f => some (p, 0x28, f)
  | .lotHold p f => some (p, 0x30, f)
  | .lotRelease p f => some (p, 0x31, f)
  | .lotList p f => some (p, 0x32, f)
  | .recipeLoad p f => some (p, 0x40, f)
  | .recipeRead p f => some (p, 0x41, f)
  | .feederSetup p f => some (p, 0x42, f)
  | .plyCall p f => some (p, 0x43, f)
  | .patchCall p f => some (p, 0x44, f)
  | .pickDone p f => some (p, 0x45, f)
  | .pickFailed p f => some (p, 0x46, f)
  | .feederStop p f => some (p, 0x47, f)
  | .callStatus p f => some (p, 0x48, f)
  | .fetchOutcome p f => some (p, 0x50, f)
  | .readFlags p f => some (p, 0x51, f)
  | .clearFlags p f => some (p, 0x52, f)
  | .setMask p f => some (p, 0x53, f)
  | .readCounters p f => some (p, 0x54, f)
  | .clearCounters p f => some (p, 0x55, f)
  | .readLanes p f => some (p, 0x56, f)
  | .badRequest p c f => some (p, c, f)
  | .armedSwapExchange => none
  | .frameGivenUp _ _ => none
  | .replyReady _ => none
  | .replyCutOff _ => none
  | .deviceReset _ => none
  | .encPulse _ => none
  | .reversalFault => none
  | .eyeLeadingEdge => none
  | .eyeTrailingEdge => none
  | .longObject => none
  | .decisionExpiry _ => none
  | .endOfLine _ => none
  | .pairingDecision => none
  | .gradingCompletion => none
  | .gateOpen _ => none
  | .gateClose _ => none
  | .landPulse _ => none
  | .windowExpiry _ _ => none
  | .waitExpiry _ => none
  | .selFall _ => none
  | .emptySelection _ => none
  | .replyCheckByteSent _ => none
  | .transactionEnd _ => none
  | .discardingRelease _ => none

/-- The row a BIN RESOLVE frame belongs to, by its form byte: 0x00 LANDED, 0x01 LOST, and every other payload (0x02
CLEAR, or one R106 refuses) under RESOLVE_CLEAR (DEDUCED, log entry 19). -/
def resolveCommand (p : Port) (f : Frame) : Instr :=
  match f.payload with
  | [_, 0x00#8] => .resolveLanded p f
  | [_, 0x01#8] => .resolveLost p f
  | _ => .resolveClear p f

/-- The request that a code byte names (R191); a code the table does not list names none and the frame is
a BAD_REQUEST. -/
def requestCommand (p : Port) (code : Byte) (f : Frame) : Instr :=
  match code with
  | 0x01#8 => .sheetReport p f
  | 0x02#8 => .lineRestart p f
  | 0x03#8 => .readTracking p f
  | 0x10#8 => .ruleWrite p f
  | 0x11#8 => .ruleRead p f
  | 0x12#8 => .ruleSwap p f
  | 0x18#8 => .layoutWrite p f
  | 0x19#8 => .layoutRead p f
  | 0x1A#8 => .enterRun p f
  | 0x1B#8 => .enterSetup p f
  | 0x20#8 => .binRead p f
  | 0x21#8 => .stackRead p f
  | 0x22#8 => .binDrain p f
  | 0x23#8 => .binService p f
  | 0x24#8 => .binLock p f
  | 0x26#8 => .binUnload p f
  | 0x27#8 => .binRemoveTop p f
  | 0x28#8 => resolveCommand p f
  | 0x30#8 => .lotHold p f
  | 0x31#8 => .lotRelease p f
  | 0x32#8 => .lotList p f
  | 0x40#8 => .recipeLoad p f
  | 0x41#8 => .recipeRead p f
  | 0x42#8 => .feederSetup p f
  | 0x43#8 => .plyCall p f
  | 0x44#8 => .patchCall p f
  | 0x45#8 => .pickDone p f
  | 0x46#8 => .pickFailed p f
  | 0x47#8 => .feederStop p f
  | 0x48#8 => .callStatus p f
  | 0x50#8 => .fetchOutcome p f
  | 0x51#8 => .readFlags p f
  | 0x52#8 => .clearFlags p f
  | 0x53#8 => .setMask p f
  | 0x54#8 => .readCounters p f
  | 0x55#8 => .clearCounters p f
  | 0x56#8 => .readLanes p f
  | _ => .badRequest p code f

/-- Whether a code byte names a request of the table of R191. -/
def isRequestCode (code : Byte) : Bool :=
  [0x01#8, 0x02#8, 0x03#8, 0x10#8, 0x11#8, 0x12#8, 0x18#8, 0x19#8, 0x1A#8, 0x1B#8, 0x20#8, 0x21#8, 0x22#8,
    0x23#8, 0x24#8, 0x26#8, 0x27#8, 0x28#8, 0x30#8, 0x31#8, 0x32#8, 0x40#8, 0x41#8, 0x42#8, 0x43#8, 0x44#8,
    0x45#8, 0x46#8, 0x47#8, 0x48#8, 0x50#8, 0x51#8, 0x52#8, 0x53#8, 0x54#8, 0x55#8, 0x56#8].contains code

/-- The bytes of a frame on MOSI, code byte first (R184). -/
def frameBytes (code : Byte) (f : Frame) : List Byte := code :: f.length :: (f.payload ++ [f.check])

/-- The command that the bytes taken on a port spell, when they are one complete frame: a code byte, a length
byte, as many payload bytes as the length byte gives, and the check byte (R184). -/
def decodeFrame (p : Port) : List Byte → Option Instr
  | code :: len :: rest =>
    if rest.length = len.toNat + 1 then
      some (requestCommand p code ⟨len, rest.take len.toNat, rest.getD len.toNat 0⟩)
    else none
  | _ => none

end Sys2Proof
end

