-- ==== Sys2Proof/Machine/State.lean ====
section
/-! DEFINITION. The state of the LQ416 as plain data, one field or structure for each piece of state the spec
names, and the state right after device reset. -/

namespace Sys2Proof.Machine

open Sys2Proof

/-! ## Grades, widths and defects -/

/-- The eight grade classes in their order (spec/00 Conventions). -/
inductive GradeClass where
  | A | B | C | D | K | N | W | R
  deriving DecidableEq, Repr

/-- The width classes, from widest to narrowest (spec/00 Conventions). -/
inductive WidthClass where
  | full | half | strip
  deriving DecidableEq, Repr

/-- The defect kinds with codes 0 to 5 in this order (spec/00 Conventions). -/
inductive DefectKind where
  | soundKnot | openKnot | hole | split | stain | rough
  deriving DecidableEq, Repr

/-- The reason recorded with a class (R51). -/
inductive Reason where
  | none | knot | opening | split | stain | density | wet | strip | noScan
  deriving DecidableEq, Repr

/-! ## Line layout (R171) -/

/-- The device mode (R175). -/
inductive DeviceMode where
  | setup | run
  deriving DecidableEq, Repr

/-- The fields of one bin in a layout copy (R171). The mode is FIXED with a class, or FLOAT (`none`). -/
structure BinLayout where
  fitted : Bool := false
  gate : Nat := 5000
  capacity : Nat := 150
  fixedClass : Option GradeClass := none
  deriving DecidableEq, Repr

/-- One copy of the line layout, at its defaults (R171). -/
structure Layout where
  laneCount : Nat := 8
  divide : Nat := 1
  decision : Nat := 3600
  lead : Nat := 100
  tail : Nat := 100
  lineEnd : Nat := 16000
  tolerance : Nat := 25
  window : Nat := 500
  qLow : Nat := 60
  qHigh : Nat := 90
  nLost : Nat := 3
  nBack : Nat := 8
  bins : Vector BinLayout 16 := Vector.replicate 16 {}
  deriving DecidableEq, Repr

/-! ## Sheet reports and lanes -/

/-- One defect of a report (R1). -/
structure Defect where
  kind : DefectKind
  lane : LaneId
  size : Nat
  deriving DecidableEq, Repr

/-- An accepted sheet report, at the values it has after clamping (R1, R3). The quality and moisture of a lane outside
the mask are not kept: they stand as 0 (DESIGN CHOICE, log entry 20). -/
structure Report where
  lineId : LineId
  lot : LotNo
  species : Nat
  length : Nat
  width : Nat
  mask : BitVec 8
  quality : Vector Nat 8
  moisture : Vector Nat 8
  defects : List Defect
  deriving DecidableEq, Repr

/-- The state of a lane (R6). -/
inductive LaneState where
  | good | suspect | lost | recovering
  deriving DecidableEq, Repr

/-- A lane record (R6). -/
structure LaneRec where
  state : LaneState := .good
  badRun : Nat := 0
  goodRun : Nat := 0
  errors : Nat := 0
  deriving DecidableEq, Repr

/-! ## Rule banks (R59, R60) -/

/-- The limits of one appearance grade, groups 1 to 4 (R60). -/
structure GradeLimits where
  knotMax : Nat
  openMax : Nat
  splitMax : Nat
  stainOk : Bool
  densityMax : Nat
  deriving DecidableEq, Repr

/-- One rule bank, at its defaults (R59). `weight` is by defect kind code, `grade` is A to D. -/
structure Bank where
  weight : Vector Nat 6 := #v[2, 6, 8, 3, 1, 2]
  grade : Vector GradeLimits 4 :=
    #v[⟨10, 0, 0, false, 20⟩, ⟨25, 0, 150, true, 60⟩, ⟨40, 4, 400, true, 150⟩, ⟨65, 10, 800, true, 400⟩]
  coreDensityMax : Nat := 1200
  coreOpenMax : Nat := 24
  wetLaneLimit : Nat := 120
  wetMeanLimit : Nat := 90
  wFull : Nat := 1200
  wHalf : Nat := 600
  deriving DecidableEq, Repr

/-- The number of a rule bank, 0 or 1 (R59). -/
inductive BankNo where
  | zero | one
  deriving DecidableEq, Repr

/-- The Rule Banks block (R59). -/
structure RuleBanks where
  bank0 : Bank := {}
  bank1 : Bank := {}
  active : BankNo := .zero
  armed : Bool := false
  serial : Serial := 0
  deriving DecidableEq, Repr

/-! ## Grading -/

/-- The result record of a grading (R52). -/
structure GradeResult where
  cls : Option GradeClass
  density : Nat
  moistMax : Nat
  moistMean : Nat
  width : Option WidthClass
  degraded : Bool
  capped : Bool
  reason : Reason
  bank : BankNo
  serial : Serial
  deriving DecidableEq, Repr

/-- What the Grading Engine holds while GRADING (R35): the report in grading, the store number of the bound
record, the usable-lane set with its counts n_u and n_v, the bank active at the start and the serial then. -/
structure Grading where
  report : Report
  store : StoreNo
  usable : BitVec 8
  usableCount : Nat
  coveredCount : Nat
  bank : BankNo
  serial : Serial
  deriving DecidableEq, Repr

/-! ## Conveyor Tracker -/

/-- The causes of a run-out (R21). -/
inductive RunoutCause where
  | late | noRoom | heldLot | unreported | long | noScan | cancelled
  deriving DecidableEq, Repr

/-- The disposition of a tracking record (R21). -/
inductive Disposition where
  | pending
  | bin (b : BinId)
  | runout (c : RunoutCause)
  deriving DecidableEq, Repr

/-- The report state of a tracking record (R21). -/
inductive ReportState where
  | none | grading | graded | skipped
  deriving DecidableEq, Repr

/-- What a tracking record holds from its trailing edge on (R21, R22): the trailing position, the eye length and
the end-of-line position set at that edge. -/
structure Trail where
  pos : Pos
  eyeLength : Nat
  endPos : Pos
  deriving DecidableEq, Repr

/-- What a tracking record takes from its report at pairing (R21, R30). -/
structure PairInfo where
  lineId : LineId
  lot : LotNo
  species : Nat
  length : Nat
  deriving DecidableEq, Repr

/-- A tracking record (R21), with its expiry position, set at creation (R34), and whether the expiry, which is
taken once for each record, has been taken (R24). -/
structure TrackRec where
  store : StoreNo
  lead : Pos
  trail : Option Trail := none
  long : Bool := false
  report : ReportState := .none
  disp : Disposition := .pending
  paired : Option PairInfo := none
  result : Option GradeResult := none
  expiryPos : Pos
  expiryTaken : Bool := false
  deriving DecidableEq, Repr

/-- The eye state (R19). While the object at the eye is tracked, `travel` counts the forward counts of P taken
since its leading edge, the eye length to be (R22). -/
inductive EyeState where
  | clear
  | blockedTracked (travel : Nat)
  | blockedUntracked
  deriving DecidableEq, Repr

/-- The Conveyor Tracker: the position counter, divide residue and backlash (R16), the eye state (R19), the
store-number counter (R20) and the tracking queue, oldest first (R21). -/
structure Tracker where
  pos : Pos := 0
  residue : Nat := 0
  backlash : Nat := 0
  eye : EyeState := .clear
  storeCounter : StoreNo := 0
  queue : List TrackRec := []
  deriving DecidableEq, Repr

/-! ## Gate Unit (R72) -/

/-- A gate entry (R72). -/
structure GateEntry where
  store : StoreNo
  openPos : Pos
  closePos : Pos
  opened : Bool
  deriving DecidableEq, Repr

/-- One gate: the lead slot, the follow slot and the output level (R72). -/
structure Gate where
  lead : Option GateEntry := none
  follow : Option GateEntry := none
  output : Bool := false
  deriving DecidableEq, Repr

/-! ## Grade Store (R92, R96) -/

/-- The state of a bin (R92). -/
inductive BinState where
  | off | service | drain | check | lockout
  deriving DecidableEq, Repr

/-- The mode of a bin (R92). -/
inductive BinMode where
  | fixed | float
  deriving DecidableEq, Repr

/-- A sheet record (R96). -/
structure Sheet where
  store : StoreNo
  lineId : LineId
  lot : LotNo
  length : Nat
  density : Nat
  cls : GradeClass
  width : WidthClass
  species : Nat
  degraded : Bool
  capped : Bool
  held : Bool := false
  reserved : Option Feeder := none
  deriving DecidableEq, Repr

/-- An in-flight record: a sheet record with its window expiry, in ms of the time base (R96). -/
structure InFlight where
  sheet : Sheet
  expiry : Nat
  deriving DecidableEq, Repr

/-- The state a bin in CHECK returns to (R92). -/
inductive ResumeState where
  | service | drain
  deriving DecidableEq, Repr

/-- A questioned record with its insert position (R92). -/
structure Questioned where
  sheet : Sheet
  position : Nat
  deriving DecidableEq, Repr

/-- A bin record after device reset (R92). The stack stands bottom first (R95), the in-flight list oldest first
(R97). -/
structure BinRec where
  state : BinState := .off
  mode : BinMode := .float
  current : Option GradeClass := none
  capacity : Nat := 150
  gate : Nat := 5000
  stack : List Sheet := []
  inFlight : List InFlight := []
  questioned : Option Questioned := none
  stray : Bool := false
  resume : Option ResumeState := none
  claim : Option Feeder := none
  uncertain : Bool := false
  deriving DecidableEq, Repr

/-! ## Recipe Queues and Draw Arbiter (R123, R124, R139, R140) -/

/-- A ply spec (R124): one to three classes in order of preference, a width requirement (`none` is ANY) and a
species mask. -/
structure PlySpec where
  classes : List GradeClass
  width : Option WidthClass
  species : BitVec 16
  deriving DecidableEq, Repr

/-- A recipe (R124). -/
structure Recipe where
  number : RecipeNo
  plies : List PlySpec
  deriving DecidableEq, Repr

/-- The mode of a recipe queue (R123). -/
inductive RecipeMode where
  | runOut | repeating
  deriving DecidableEq, Repr

/-- The origin of a ply entry (R140). -/
inductive Origin where
  | call (recipe : RecipeNo) (ply : Nat)
  | patch
  deriving DecidableEq, Repr

/-- A ply entry (R140). -/
structure PlyEntry where
  spec : PlySpec
  origin : Origin
  reServed : Bool
  deriving DecidableEq, Repr

/-- A grant (R139). -/
structure Grant where
  entry : PlyEntry
  bin : BinId
  store : StoreNo
  deriving DecidableEq, Repr

/-- The patch slot (R139). An `unserved` patch is WAITING while the feeder has a waiting ply, since the patch is
then its front ply (R141). -/
inductive PatchSlot where
  | empty
  | unserved (e : PlyEntry)
  | granted (g : Grant)
  deriving DecidableEq, Repr

/-- The wait of a feeder's front ply (R139): its target and its expiry in ms of the time base. -/
structure Wait where
  target : Option BinId
  expiry : Nat
  deriving DecidableEq, Repr

/-- What the part holds for one feeder: the Recipe Queues' items (R123) and the Draw Arbiter's (R139). The claim
is the claim field of the bin record that names the feeder: the two always agree (R139), so it is held once. -/
structure FeederRec where
  recipes : List Recipe := []
  position : Option Nat := none
  mode : RecipeMode := .runOut
  groupSize : Nat := 1
  timeout : Nat := 10
  unserved : List PlyEntry := []
  grants : List Grant := []
  patch : PatchSlot := .empty
  waiting : Option Wait := none
  deriving DecidableEq, Repr

/-- The records of both feeders. -/
structure Feeders where
  a : FeederRec := {}
  b : FeederRec := {}
  deriving DecidableEq, Repr

/-! ## Ports (R182, R199, R201) -/

/-- The ending of a call in a CALL END outcome (R198). -/
inductive CallEnding where
  | complete | short | stopped
  deriving DecidableEq, Repr

/-- What followed a consumption (R131). -/
inductive Followed where
  | next | repeated | empty
  deriving DecidableEq, Repr

/-- An outcome record (R197, R198). -/
inductive OutcomeRec where
  | sheetDecided (lineId : LineId) (store : StoreNo) (decision : Disposition) (result : GradeResult)
  | sheetUnreported (store : StoreNo) (lead : Pos) (eyeLength : Nat)
  | orphan (lineId : LineId) (length : Nat)
  | grant (store : StoreNo) (bin : BinId) (cls : GradeClass) (origin : Origin) (reServed : Bool)
  | grantRevoked (store : StoreNo) (bin : BinId) (origin : Origin)
  | callEnd (ending : CallEnding) (patch : Bool) (reServed : Bool) (count : Nat) (recipe : RecipeNo) (ply : Nat)
  | recipeConsumed (consumed : RecipeNo) (followed : Followed) (left : Nat) (head : RecipeNo)
  deriving DecidableEq, Repr

/-- The state of a port parser (R182). From PREPARING on it holds the bytes of the reply, fixed when the frame
ended (R185). -/
inductive Parser where
  | deselected
  | request
  | preparing (reply : List Byte)
  | replying (reply : List Byte)
  | trailing
  | discarding
  deriving DecidableEq, Repr

/-- What the part holds for one port: the parser (R182), the outcome queue (R199), the flag word, the seen marks
and the enable mask (R201). -/
structure PortRec where
  parser : Parser := .deselected
  outcomes : List OutcomeRec := []
  flags : BitVec 16 := 0
  seen : BitVec 16 := 0
  mask : BitVec 16 := 0xFFFF
  deriving DecidableEq, Repr

/-- The records of the three ports. -/
structure Ports where
  line : PortRec := {}
  feederA : PortRec := {}
  feederB : PortRec := {}
  deriving DecidableEq, Repr

/-- The notice flags, in the order of their bits 0 to 14 (R201). -/
inductive Flag where
  | frameError | outcomeLost | recipeOverflow | shortage | revoked | orphan | late | trackOverflow | reversal
  | swapDone | missedDrop | strayLanding | laneDown | binCheck | binUncertain
  deriving DecidableEq, Repr

/-! ## Counters (R208) -/

/-- The statistics counters, group by group (R208). -/
inductive Counter where
  | sheetsTracked | fragments | longObjects | untracked | reportsAccepted | reportsRefused | orphans
  | unreported | reversalLosses | restartLosses
  | runout (c : RunoutCause)
  | graded (c : GradeClass)
  | landed | missedDrops | strayLandings | questionedDiscarded | lostAtGateClose | unloaded
  | picks (f : Feeder)
  | pickLosses (f : Feeder)
  | shortages (f : Feeder)
  deriving DecidableEq, Repr

/-! ## The machine -/

/-- The state of the LQ416. `now` is the part's internal time base in ms. `pending`, the queue of
the commands that wait, is the model's own. -/
structure State where
  mode : DeviceMode
  pendingLayout : Layout
  activeLayout : Layout
  tracker : Tracker
  reports : List Report
  lanes : Vector LaneRec 8
  engine : Option Grading
  rules : RuleBanks
  gates : Vector Gate 16
  bins : Vector BinRec 16
  lotHolds : List LotNo
  feeders : Feeders
  firstTurn : Feeder
  ports : Ports
  counters : Vector Nat 37
  now : Nat
  pending : List Instr
  deriving DecidableEq, Repr

/-- The state right after device reset, each field as its chapter gives it (R181), with EYE low, every select high and
no command waiting (DESIGN CHOICE, log entry 16). -/
def State.reset : State where
  mode := .setup
  pendingLayout := {}
  activeLayout := {}
  tracker := {}
  reports := []
  lanes := Vector.replicate 8 {}
  engine := none
  rules := {}
  gates := Vector.replicate 16 {}
  bins := Vector.replicate 16 {}
  lotHolds := []
  feeders := {}
  firstTurn := .A
  ports := {}
  counters := Vector.replicate 37 0
  now := 0
  pending := []

/-- Why the block could stop with a fault. The spec names no condition that stops the part, and every command of
the model has a next state, so there is no constructor: no step faults. -/
inductive Fault where
  deriving DecidableEq, Repr

/-- Why a command could be refused by the model. `notModelled` is raised only by an arm of `exec` whose command
has no meaning yet (safe: the model stops); no arm raises it. -/
inductive Refusal where
  | notModelled (mnemonic : String)
  deriving DecidableEq, Repr

/-- The outcome of a command. -/
abbrev Result := Host.Outcome State Fault Refusal

end Sys2Proof.Machine
end

