-- ==== Sys2Proof/Machine/Operands.lean ====
section
/-! DEFINITION. The operand forms: byte fields of payloads, the check byte, status codes and replies, the codes
every layout uses, and the byte layouts of sheet records, tracking records, outcome records and rule and layout
groups (spec/10). -/

namespace Sys2Proof.Machine

open Sys2Proof

/-! ## Byte fields, most significant byte first (spec/00 Conventions, Numbers in frames) -/

/-- A number as one byte. -/
def u8 (n : Nat) : Byte := BitVec.ofNat 8 n

/-- A number as two bytes. -/
def be16 (n : Nat) : List Byte := [u8 (n / 256), u8 n]

/-- A number as four bytes. -/
def be32 (n : Nat) : List Byte := [u8 (n / 16777216), u8 (n / 65536), u8 (n / 256), u8 n]

/-- The byte at offset `i` of a payload, 0 past its end. -/
def byteAt (l : List Byte) (i : Nat) : Nat := (l.getD i 0).toNat

/-- The two-byte field at offset `i`. -/
def nat16At (l : List Byte) (i : Nat) : Nat := byteAt l i * 256 + byteAt l (i + 1)

/-- The four-byte field at offset `i`. -/
def nat32At (l : List Byte) (i : Nat) : Nat := nat16At l i * 65536 + nat16At l (i + 2)

/-- A value clamped to a range takes the nearer end (spec/00 Conventions, Ranges). -/
def clamp (lo hi v : Nat) : Nat := max lo (min hi v)

/-! ## The check byte (R186) -/

/-- One left shift of the remainder, combined with 0x07 when its top bit was set (R186). -/
def crcShift (r : Byte) : Byte := if r.getLsbD 7 then (r <<< 1) ^^^ 0x07 else r <<< 1

/-- One byte taken into the remainder (R186). -/
def crcByte (r b : Byte) : Byte :=
  crcShift (crcShift (crcShift (crcShift (crcShift (crcShift (crcShift (crcShift (r ^^^ b))))))))

/-- The CRC-8 over a list of bytes (R186). -/
def crc8 (bytes : List Byte) : Byte := bytes.foldl crcByte 0

/-- The check byte a request frame must carry: over code, length and payload (R186). -/
def requestCheck (code : Byte) (f : Frame) : Byte := crc8 (code :: f.length :: f.payload)

/-- A frame passes the frame check: its length byte is at most 120 and its check byte is the one computed
(R189, check 1). -/
def frameGood (code : Byte) (f : Frame) : Bool :=
  decide (f.length.toNat ≤ Config.payloadMax) && f.check == requestCheck code f

/-- The frame that carries `payload` under `code` with its right length and check byte. -/
def frameFor (code : Byte) (payload : List Byte) : Frame :=
  { length := u8 payload.length, payload := payload, check := crc8 (code :: u8 payload.length :: payload) }

/-! ## Replies (R185, R190) -/

/-- The reply status codes (R190). -/
inductive Status where
  | ok | clamped | busy | full | wrongPort | badFrame | badRequest | badArg | wrongState | notRunning
  | noRecipe | order | notGranted | invalid
  deriving DecidableEq, Repr

/-- The code of a status (R190). -/
def Status.code : Status → Nat
  | .ok => 0x00
  | .clamped => 0x01
  | .busy => 0x02
  | .full => 0x03
  | .wrongPort => 0x04
  | .badFrame => 0x05
  | .badRequest => 0x06
  | .badArg => 0x07
  | .wrongState => 0x08
  | .notRunning => 0x09
  | .noRecipe => 0x0A
  | .order => 0x0B
  | .notGranted => 0x0C
  | .invalid => 0x0D

/-- A reply: its status and its payload. -/
structure Reply where
  status : Status
  payload : List Byte := []
  deriving DecidableEq, Repr

/-- The bytes of a reply: start byte, status, length, payload, check byte (R185, R186). -/
def Reply.bytes (r : Reply) : List Byte :=
  let body := u8 r.status.code :: u8 r.payload.length :: r.payload
  0x5A :: (body ++ [crc8 body])

/-- A reply without payload. -/
def Reply.bare (st : Status) : Reply := { status := st }

/-! ## Codes used in every layout (spec/10, Byte layouts) -/

/-- The code of a class (R125). -/
def GradeClass.code : GradeClass → Nat
  | .A => 0
  | .B => 1
  | .C => 2
  | .D => 3
  | .K => 4
  | .N => 5
  | .W => 6
  | .R => 7

/-- The class of a code, 0x00 to 0x07 (R125). -/
def GradeClass.ofCode : Nat → Option GradeClass
  | 0 => some .A
  | 1 => some .B
  | 2 => some .C
  | 3 => some .D
  | 4 => some .K
  | 5 => some .N
  | 6 => some .W
  | 7 => some .R
  | _ => none

/-- The code of a width class. -/
def WidthClass.code : WidthClass → Nat
  | .full => 0
  | .half => 1
  | .strip => 2

/-- The code of a reason. -/
def Reason.code : Reason → Nat
  | .none => 0
  | .knot => 1
  | .opening => 2
  | .split => 3
  | .stain => 4
  | .density => 5
  | .wet => 6
  | .strip => 7
  | .noScan => 8

/-- The code of a defect kind (spec/00 Conventions). -/
def DefectKind.code : DefectKind → Fin 6
  | .soundKnot => 0
  | .openKnot => 1
  | .hole => 2
  | .split => 3
  | .stain => 4
  | .rough => 5

/-- The defect kind of a code. -/
def DefectKind.ofCode : Nat → Option DefectKind
  | 0 => some .soundKnot
  | 1 => some .openKnot
  | 2 => some .hole
  | 3 => some .split
  | 4 => some .stain
  | 5 => some .rough
  | _ => none

/-- The code of a run-out cause, which is also its index in the run-out counters (R208). -/
def RunoutCause.code : RunoutCause → Nat
  | .late => 0
  | .noRoom => 1
  | .heldLot => 2
  | .unreported => 3
  | .long => 4
  | .noScan => 5
  | .cancelled => 6

/-- The code of a disposition or decision. -/
def Disposition.code : Disposition → Nat
  | .pending => 0x00
  | .bin b => 0x10 + b.val
  | .runout c => 0x20 + c.code

/-- The feeder code: none 0, A 1, B 2. -/
def feederCode : Option Feeder → Nat
  | none => 0
  | some .A => 1
  | some .B => 2

/-- The number of a rule bank. -/
def BankNo.code : BankNo → Nat
  | .zero => 0
  | .one => 1

/-- A set or clear mark as 0 or 1. -/
def bit (b : Bool) : Nat := b.toNat

/-- The number 1 to 16 of a bin. -/
def binNumber (b : BinId) : Nat := b.val + 1

/-- The bin of a bin number byte; none outside 1 to 16. -/
def binOfNumber (n : Nat) : Option BinId :=
  if h : 1 ≤ n ∧ n ≤ 16 then some ⟨n - 1, by omega⟩ else none

/-- The number of a bin, 0 for none (R169). -/
def optionBinNumber : Option BinId → Nat
  | none => 0
  | some b => binNumber b

/-- The recipe number of an origin, 0 for the patch (R198). -/
def Origin.recipe : Origin → RecipeNo
  | .call r _ => r
  | .patch => 0

/-- The ply number of an origin, 0 for the patch (R198). -/
def Origin.ply : Origin → Nat
  | .call _ p => p
  | .patch => 0

/-- Whether an origin is the patch. -/
def Origin.isPatch : Origin → Bool
  | .call _ _ => false
  | .patch => true

/-! ## Record layouts -/

/-- A sheet record in fourteen bytes (R194). -/
def Sheet.bytes (r : Sheet) : List Byte :=
  be16 r.store.toNat ++ be32 r.lineId.toNat ++ be16 r.lot.toNat ++ be16 r.length ++ be16 r.density ++
  [u8 (r.cls.code * 16 + r.species),
   u8 (r.width.code + 4 * bit r.degraded + 8 * bit r.capped + 16 * bit r.held + 32 * feederCode r.reserved)]

/-- The report state code of a tracking record (R196). -/
def ReportState.code : ReportState → Nat
  | .none => 0
  | .grading => 1
  | .graded => 2
  | .skipped => 3

/-- A tracking record in sixteen bytes (R196). -/
def TrackRec.bytes (r : TrackRec) : List Byte :=
  be16 r.store.toNat ++ be16 r.lead.toNat ++
  be16 (r.trail.elim 0 fun t => t.pos.toNat) ++ be16 (r.trail.elim 0 (·.eyeLength)) ++
  be32 (r.paired.elim 0 fun p => p.lineId.toNat) ++
  [u8 (r.report.code + 4 * bit r.long + 8 * bit r.trail.isSome + 16 * bit r.paired.isSome +
      32 * bit r.result.isSome),
   u8 r.disp.code,
   u8 (r.result.elim 0 fun g => g.cls.elim 0xFF GradeClass.code),
   u8 (r.result.elim 0 fun g => g.reason.code)]

/-- The ending code of CALL END (R198). -/
def CallEnding.code : CallEnding → Nat
  | .complete => 0
  | .short => 1
  | .stopped => 2

/-- The code of what followed a consumption (R198). -/
def Followed.code : Followed → Nat
  | .next => 0
  | .repeated => 1
  | .empty => 2

/-- An outcome record, beginning with its kind byte (R197, R198). -/
def OutcomeRec.bytes : OutcomeRec → List Byte
  | .sheetDecided lineId store decision g =>
    [0x01] ++ be32 lineId.toNat ++ be16 store.toNat ++
    [u8 decision.code, u8 (g.cls.elim 0xFF GradeClass.code), u8 (g.width.elim 0xFF WidthClass.code)] ++
    be16 g.density ++ be16 g.moistMax ++ be16 g.moistMean ++
    [u8 (bit g.degraded + 2 * bit g.capped), u8 g.reason.code, u8 g.bank.code] ++ be16 g.serial.toNat
  | .sheetUnreported store lead eyeLength =>
    [0x02] ++ be16 store.toNat ++ be16 lead.toNat ++ be16 eyeLength
  | .orphan lineId length => [0x03] ++ be32 lineId.toNat ++ be16 length
  | .grant store bin cls origin reServed =>
    [0x10] ++ be16 store.toNat ++ [u8 (binNumber bin), u8 cls.code] ++ be16 origin.recipe.toNat ++
    [u8 origin.ply, u8 (bit origin.isPatch + 2 * bit reServed)]
  | .grantRevoked store bin origin =>
    [0x11] ++ be16 store.toNat ++ [u8 (binNumber bin)] ++ be16 origin.recipe.toNat ++
    [u8 origin.ply, u8 (bit origin.isPatch)]
  | .callEnd ending patch reServed count recipe ply =>
    [0x12, u8 ending.code, u8 (bit patch + 2 * bit reServed), u8 count] ++ be16 recipe.toNat ++ [u8 ply]
  | .recipeConsumed consumed followed left head =>
    [0x13] ++ be16 consumed.toNat ++ [u8 followed.code, u8 left] ++ be16 head.toNat

/-- A ply spec in six bytes (R125). -/
def PlySpec.bytes (sp : PlySpec) : List Byte :=
  [u8 (sp.classes[0]?.elim 0xFF GradeClass.code), u8 (sp.classes[1]?.elim 0xFF GradeClass.code),
   u8 (sp.classes[2]?.elim 0xFF GradeClass.code), u8 (sp.width.elim 3 WidthClass.code)] ++
  be16 sp.species.toNat

/-- A recipe in the payload form of RECIPE LOAD (R125). -/
def Recipe.bytes (r : Recipe) : List Byte :=
  be16 r.number.toNat ++ [u8 r.plies.length] ++ r.plies.flatMap PlySpec.bytes

/-- A class a ply may name, A, B, C, D, K or N (R124). -/
def plyClass (code : Nat) : Option GradeClass :=
  if code ≤ 5 then GradeClass.ofCode code else none

/-- The class list of a ply's three class bytes; none where R126 refuses them: the first is no class, the third is
a class while the second is 0xFF, a byte is neither a class nor 0xFF, or a class is named twice. -/
def plyClasses (c0 c1 c2 : Nat) : Option (List GradeClass) :=
  match plyClass c0 with
  | none => none
  | some x =>
    match plyClass c1 with
    | none => if c1 = 0xFF ∧ c2 = 0xFF then some [x] else none
    | some y =>
      if x = y then none
      else
        match plyClass c2 with
        | none => if c2 = 0xFF then some [x, y] else none
        | some z => if z = x ∨ z = y then none else some [x, y, z]

/-- The width requirement of a byte (R125): 0x03 is ANY; none above it. -/
def plyWidth : Nat → Option (Option WidthClass)
  | 0 => some (some .full)
  | 1 => some (some .half)
  | 2 => some (some .strip)
  | 3 => some none
  | _ => none

/-- The ply spec of six bytes at offset `i`; none where R126 refuses it. -/
def plySpecAt (l : List Byte) (i : Nat) : Option PlySpec :=
  match plyClasses (byteAt l i) (byteAt l (i + 1)) (byteAt l (i + 2)), plyWidth (byteAt l (i + 3)) with
  | some cs, some w =>
    if nat16At l (i + 4) = 0 then none else some ⟨cs, w, BitVec.ofNat 16 (nat16At l (i + 4))⟩
  | _, _ => none

/-- The `n` ply specs from offset `i` on; none when one of them is refused. -/
def plySpecsAt (l : List Byte) : Nat → Nat → Option (List PlySpec)
  | _, 0 => some []
  | i, n + 1 =>
    match plySpecAt l i, plySpecsAt l (i + 6) n with
    | some sp, some rest => some (sp :: rest)
    | _, _ => none

/-! ## The masks of lanes and bins -/

/-- The lanes 0 to 7 in order. -/
def lanesInOrder : List LaneId := [0, 1, 2, 3, 4, 5, 6, 7]

/-- The bins 1 to 16 in order. -/
def binsInOrder : List BinId := [0, 1, 2, 3, 4, 5, 6, 7, 8, 9, 10, 11, 12, 13, 14, 15]

/-- A table over the lanes. -/
def tabulateLanes {α : Type} (f : LaneId → α) : Vector α 8 := #v[f 0, f 1, f 2, f 3, f 4, f 5, f 6, f 7]

/-- A table over the bins. -/
def tabulateBins {α : Type} (f : BinId → α) : Vector α 16 :=
  #v[f 0, f 1, f 2, f 3, f 4, f 5, f 6, f 7, f 8, f 9, f 10, f 11, f 12, f 13, f 14, f 15]

/-- How many lanes a lane mask names. -/
def laneCountOf (m : BitVec 8) : Nat := lanesInOrder.countP fun l => m.getLsbD l.val

/-- The best of a list by a strict preference; of two that tie the earlier stands. -/
def pickBest {α : Type} (better : α → α → Bool) : List α → Option α
  | [] => none
  | x :: xs =>
    match pickBest better xs with
    | none => some x
    | some y => if better y x then some y else some x

end Sys2Proof.Machine
end

