-- ==== Sys2Proof/Machine/Flags.lean ====
section
/-! DEFINITION. Notice flags, conditions, outcome queues and counters: every way the block reports what came about
(spec/11), and the ATTN level that follows from them. -/

namespace Sys2Proof.Machine

open Sys2Proof

/-! ## The three ports -/

/-- The record of a port. -/
def State.port (s : State) (p : Port) : PortRec :=
  match p with
  | .line => s.ports.line
  | .feeder .A => s.ports.feederA
  | .feeder .B => s.ports.feederB

/-- The port tables with one port's record replaced. -/
def Ports.put (ps : Ports) (p : Port) (r : PortRec) : Ports :=
  match p with
  | .line => { ps with line := r }
  | .feeder .A => { ps with feederA := r }
  | .feeder .B => { ps with feederB := r }

/-- The state with one port's record replaced. -/
def State.setPort (s : State) (p : Port) (r : PortRec) : State := { s with ports := s.ports.put p r }

/-- The state with one port's parser replaced. -/
def State.setParser (s : State) (p : Port) (x : Parser) : State := s.setPort p { s.port p with parser := x }

/-! ## Notice flags (R201, R202) -/

/-- The bit of a flag in the flag word and the mask (R201). -/
def Flag.index : Flag → Nat
  | .frameError => 0
  | .outcomeLost => 1
  | .recipeOverflow => 2
  | .shortage => 3
  | .revoked => 4
  | .orphan => 5
  | .late => 6
  | .trackOverflow => 7
  | .reversal => 8
  | .swapDone => 9
  | .missedDrop => 10
  | .strayLanding => 11
  | .laneDown => 12
  | .binCheck => 13
  | .binUncertain => 14

/-- The word with the bit of one flag set. -/
def Flag.word (g : Flag) : BitVec 16 := 1#16 <<< g.index

/-- A flag is set and its seen mark cleared, whether or not it was set before (R202). -/
def PortRec.raise (r : PortRec) (g : Flag) : PortRec :=
  { r with flags := r.flags ||| g.word, seen := r.seen &&& ~~~g.word }

/-- An event flag set on one port (R202). -/
def State.raise (s : State) (p : Port) (g : Flag) : State := s.setPort p ((s.port p).raise g)

/-- An event flag set on all three ports (R202). -/
def State.raiseAll (s : State) (g : Flag) : State :=
  { s with ports := ⟨s.ports.line.raise g, s.ports.feederA.raise g, s.ports.feederB.raise g⟩ }

/-! ## Conditions (R11, R104, R203) -/

/-- A lane is usable in GOOD and SUSPECT (R9). -/
def LaneState.usable : LaneState → Bool
  | .good => true
  | .suspect => true
  | .lost => false
  | .recovering => false

/-- The LANE_DOWN condition: a fitted lane is LOST or RECOVERING (R11). -/
def State.laneDown (s : State) : Bool :=
  lanesInOrder.any fun l => decide (l.val < s.activeLayout.laneCount) && !s.lanes[l].state.usable

/-- The BIN_CHECK condition: a bin is in CHECK (R104). -/
def State.binCheck (s : State) : Bool := binsInOrder.any fun b => s.bins[b].state == .check

/-- The BIN_UNCERTAIN condition: a bin's uncertain mark is set (R104). -/
def State.binUncertain (s : State) : Bool := binsInOrder.any fun b => s.bins[b].uncertain

/-- A condition flag set on all three ports where its condition has become true (R203). -/
def State.raiseRisen (s : State) (g : Flag) (before after : Bool) : State :=
  if after && !before then s.raiseAll g else s

/-- The conditions taken afresh after a change from `before` to `s`: each that has become true sets its flag, and one
that stays true or becomes false leaves its flag and seen mark as they were (R203) (DEDUCED, log entry 12). -/
def State.takeConditions (s before : State) : State :=
  ((s.raiseRisen .laneDown before.laneDown s.laneDown).raiseRisen .binCheck before.binCheck
    s.binCheck).raiseRisen .binUncertain before.binUncertain s.binUncertain

/-- The present conditions as flag bits. -/
def State.conditionWord (s : State) : BitVec 16 :=
  (if s.laneDown then Flag.laneDown.word else 0) ||| (if s.binCheck then Flag.binCheck.word else 0) |||
    (if s.binUncertain then Flag.binUncertain.word else 0)

/-! ## Outcome queues (R199) -/

/-- A record sent to a port: appended at the tail, or dropped with OUTCOME_LOST when the queue holds eight. -/
def State.send (s : State) (p : Port) (o : OutcomeRec) : State :=
  if (s.port p).outcomes.length < Config.outcomeQueueDepth then
    s.setPort p { s.port p with outcomes := (s.port p).outcomes ++ [o] }
  else s.raise p .outcomeLost

/-! ## ATTN and MISO -/

/-- The ATTN output of a port is active while its outcome queue holds a record or an enabled flag is set (R207). -/
def PortRec.attn (r : PortRec) : Bool := !r.outcomes.isEmpty || (r.flags &&& r.mask) != 0

/-- The byte MISO carries for the `k`-th byte clocked in a parser state: not driven in DESELECTED, the reply in
REPLYING, and 0x00 in every other state (R182). -/
def Parser.miso (x : Parser) (k : Nat) : Option Byte :=
  match x with
  | .deselected => none
  | .replying reply => some (reply.getD k 0)
  | .request => some 0
  | .preparing _ => some 0
  | .trailing => some 0
  | .discarding => some 0

/-! ## Counters (R208) -/

/-- The place of a counter: the five groups one after the other, each in its index order (R208). -/
def Counter.index : Counter → Fin 37
  | .sheetsTracked => 0
  | .fragments => 1
  | .longObjects => 2
  | .untracked => 3
  | .reportsAccepted => 4
  | .reportsRefused => 5
  | .orphans => 6
  | .unreported => 7
  | .reversalLosses => 8
  | .restartLosses => 9
  | .runout .late => 10
  | .runout .noRoom => 11
  | .runout .heldLot => 12
  | .runout .unreported => 13
  | .runout .long => 14
  | .runout .noScan => 15
  | .runout .cancelled => 16
  | .graded .A => 17
  | .graded .B => 18
  | .graded .C => 19
  | .graded .D => 20
  | .graded .K => 21
  | .graded .N => 22
  | .graded .W => 23
  | .graded .R => 24
  | .landed => 25
  | .missedDrops => 26
  | .strayLandings => 27
  | .questionedDiscarded => 28
  | .lostAtGateClose => 29
  | .unloaded => 30
  | .picks .A => 31
  | .pickLosses .A => 32
  | .shortages .A => 33
  | .picks .B => 34
  | .pickLosses .B => 35
  | .shortages .B => 36

/-- The value of a counter. -/
def State.counter (s : State) (c : Counter) : Nat := s.counters[c.index]

/-- `n` increments of a counter, which saturates (R208). -/
def State.bumpBy (s : State) (c : Counter) (n : Nat) : State :=
  { s with counters := s.counters.set c.index (min (s.counter c + n) Config.counterMax) }

/-- One increment of a counter (R208). -/
def State.bump (s : State) (c : Counter) : State := s.bumpBy c 1

/-- The counters of a group in index order (R208); the lane error counts are no statistics counters. -/
def counterGroup : Nat → List Counter
  | 0 => [.sheetsTracked, .fragments, .longObjects, .untracked, .reportsAccepted, .reportsRefused, .orphans,
      .unreported, .reversalLosses, .restartLosses]
  | 1 => [.runout .late, .runout .noRoom, .runout .heldLot, .runout .unreported, .runout .long,
      .runout .noScan, .runout .cancelled]
  | 2 => [.graded .A, .graded .B, .graded .C, .graded .D, .graded .K, .graded .N, .graded .W, .graded .R]
  | 3 => [.landed, .missedDrops, .strayLandings, .questionedDiscarded, .lostAtGateClose, .unloaded]
  | 4 => [.picks .A, .pickLosses .A, .shortages .A, .picks .B, .pickLosses .B, .shortages .B]
  | _ => []

end Sys2Proof.Machine
end

