-- ==== Sys2Proof/Machine/Ops.lean ====
section
/-! DEFINITION. The named operations that more than one command uses: access to bins, gates and feeders, the taking
of a request frame, store numbers, inbound counts, FLOAT release, cancellation, the emptying of the gates, the
tracking queue's updates and the exchange of the rule banks. -/

namespace Sys2Proof

/-- The other feeder. -/
def Feeder.other : Feeder → Feeder
  | .A => .B
  | .B => .A

end Sys2Proof

namespace Sys2Proof.Machine

open Sys2Proof

/-! ## Bins, gates and feeders -/

/-- The record of a bin. -/
def State.bin (s : State) (b : BinId) : BinRec := s.bins[b]

/-- The state with one bin record replaced. -/
def State.setBin (s : State) (b : BinId) (r : BinRec) : State := { s with bins := s.bins.set b r }

/-- The state with every bin record changed by `f`. -/
def State.mapBins (s : State) (f : BinRec → BinRec) : State :=
  { s with bins := tabulateBins fun b => f (s.bin b) }

/-- The gate of a bin. -/
def State.gate (s : State) (b : BinId) : Gate := s.gates[b]

/-- The state with one gate replaced. -/
def State.setGate (s : State) (b : BinId) (g : Gate) : State := { s with gates := s.gates.set b g }

/-- The record of a feeder. -/
def State.feeder (s : State) (f : Feeder) : FeederRec :=
  match f with
  | .A => s.feeders.a
  | .B => s.feeders.b

/-- The state with one feeder's record replaced. -/
def State.setFeeder (s : State) (f : Feeder) (r : FeederRec) : State :=
  match f with
  | .A => { s with feeders := { s.feeders with a := r } }
  | .B => { s with feeders := { s.feeders with b := r } }

/-- The state with the tracking queue replaced. -/
def State.setQueue (s : State) (q : List TrackRec) : State := { s with tracker := { s.tracker with queue := q } }

/-! ## Taking a request frame (R182, R184, R185, R189) -/

/-- A request frame that has ended on port `p`. It is taken only while the parser is in REQUEST: in every other
state the bytes are ignored (R183). A frame that fails the frame check is answered BAD_FRAME with FRAME_ERROR set on
the port; another is answered by `body`. The reply is fixed as the frame ends, and the parser goes to PREPARING. -/
def takeFrame (code : Byte) (body : State → Reply × State) (p : Port) (f : Frame) (s : State) : State :=
  if (s.port p).parser = .request then
    let out := if frameGood code f then body s else (Reply.bare .badFrame, s.raise p .frameError)
    out.2.setParser p (.preparing out.1.bytes)
  else s

/-- A request accepted on any port (R191). -/
def takeAny (code : Byte) (body : Port → List Byte → State → Reply × State) (p : Port) (f : Frame)
    (s : State) : State :=
  takeFrame code (body p f.payload) p f s

/-- A request accepted on the feeder ports alone, acting for the port's feeder; WRONG_PORT on the Line Port
(R189, R191). -/
def takeFeeder (code : Byte) (body : Feeder → List Byte → State → Reply × State) (p : Port) (f : Frame)
    (s : State) : State :=
  match p with
  | .line => takeFrame code (fun s => (Reply.bare .wrongPort, s)) p f s
  | .feeder g => takeFrame code (body g f.payload) p f s

/-- A request that is refused with a status, no payload and no effect (R190). -/
def refuse (st : Status) (s : State) : Reply × State := (Reply.bare st, s)

/-- A request whose payload must be empty: BAD_ARG otherwise. -/
def withoutPayload (l : List Byte) (body : State → Reply × State) (s : State) : Reply × State :=
  if l.isEmpty then body s else refuse .badArg s

/-! ## Inbound counts and FLOAT release (R93, R115) -/

/-- The number of entries in a gate. -/
def Gate.entries (g : Gate) : Nat := bit g.lead.isSome + bit g.follow.isSome

/-- A bin's inbound count: its gate's entries plus its in-flight records (R93). -/
def State.inbound (s : State) (b : BinId) : Nat := (s.gate b).entries + (s.bin b).inFlight.length

/-- FLOAT release of a bin record of inbound count `n`: a FLOAT bin with an empty stack, nothing inbound and no
questioned record has no class (R115). -/
def BinRec.floatRelease (r : BinRec) (n : Nat) : BinRec :=
  if r.mode = .float ∧ r.stack = [] ∧ n = 0 ∧ r.questioned = none then { r with current := none } else r

/-- FLOAT release taken for one bin (R115). -/
def State.floatRelease (s : State) (b : BinId) : State := s.setBin b ((s.bin b).floatRelease (s.inbound b))

/-- FLOAT release taken for every bin (R115). -/
def State.floatReleaseAll (s : State) : State :=
  { s with bins := tabulateBins fun b => (s.bin b).floatRelease (s.inbound b) }

/-! ## Store numbers (R20) -/

/-- The store numbers a bin record carries: stack, in-flight list and questioned place. -/
def BinRec.carried (r : BinRec) : List StoreNo :=
  r.stack.map (·.store) ++ r.inFlight.map (·.sheet.store) ++ (r.questioned.map (·.sheet.store)).toList

/-- The store numbers a gate carries. -/
def Gate.carried (g : Gate) : List StoreNo :=
  (g.lead.map (·.store)).toList ++ (g.follow.map (·.store)).toList

/-- Every store number carried by a sheet anywhere in the part (R20). -/
def State.carried (s : State) : List StoreNo :=
  s.tracker.queue.map (·.store) ++ binsInOrder.flatMap (fun b => (s.gate b).carried) ++
    binsInOrder.flatMap (fun b => (s.bin b).carried)

/-- One step of the store-number counter: from 65535 to 1, never to 0 (R20). -/
def storeSucc (n : StoreNo) : StoreNo := if n = 0xFFFF then 1 else n + 1

/-- The counter stepped forward past the carried numbers. With as many further steps as there are carried numbers
a free one is reached. -/
def freeStore (carried : List StoreNo) : Nat → StoreNo → StoreNo
  | 0, n => storeSucc n
  | k + 1, n => if storeSucc n ∈ carried then freeStore carried k (storeSucc n) else storeSucc n

/-- The next store number the Tracker gives (R20). -/
def State.nextStore (s : State) : StoreNo := freeStore s.carried s.carried.length s.tracker.storeCounter

/-! ## The tracking queue -/

/-- The record of a store number in the tracking queue. -/
def State.record? (s : State) (n : StoreNo) : Option TrackRec := s.tracker.queue.find? fun r => r.store = n

/-- The tracking queue with the record of a store number changed. -/
def changeRecord (n : StoreNo) (f : TrackRec → TrackRec) (q : List TrackRec) : List TrackRec :=
  q.map fun r => if r.store = n then f r else r

/-- The tracking queue without the record of a store number; the records behind it keep their order (R21). -/
def removeRecord (n : StoreNo) (q : List TrackRec) : List TrackRec := q.filter fun r => r.store ≠ n

/-- The disposition given to a record. -/
def State.setDisposition (s : State) (n : StoreNo) (d : Disposition) : State :=
  s.setQueue (changeRecord n (fun r => { r with disp := d }) s.tracker.queue)

/-! ## Gates (R87, R90) -/

/-- The store numbers of a gate's unopened entries. -/
def Gate.unopened (g : Gate) : List StoreNo :=
  ((g.lead.filter fun e => !e.opened).map (·.store)).toList ++
    ((g.follow.filter fun e => !e.opened).map (·.store)).toList

/-- Cancellation for bin `b`, which has entered CHECK or LOCKOUT: each unopened entry of its gate leaves, and its
record becomes RUNOUT(CANCELLED) and stays in the queue. An opened lead entry stands, with its output on (R87). -/
def State.cancelGate (s : State) (b : BinId) : State :=
  let g := s.gate b
  let cancelled := s.setQueue (s.tracker.queue.map fun r =>
    if r.store ∈ g.unopened then { r with disp := .runout .cancelled } else r)
  cancelled.setGate b
    { g with lead := g.lead.filter fun e => e.opened, follow := g.follow.filter fun e => e.opened }

/-- Every slot of every gate emptied and every output off (R90). -/
def State.emptyGates (s : State) : State := { s with gates := Vector.replicate 16 {} }

/-- A bin whose inbound count was above 0 in `before` and is 0 in `s`. -/
def State.someInboundGone (s before : State) : Bool :=
  binsInOrder.any fun b => decide (0 < before.inbound b) && decide (s.inbound b = 0)

/-! ## Bin states -/

/-- A bin that is in SERVICE or DRAIN. -/
def BinState.working : BinState → Bool
  | .service => true
  | .drain => true
  | .off => false
  | .check => false
  | .lockout => false

/-- The resume state of a bin that enters CHECK from a state (R100, R101). -/
def BinState.resume : BinState → Option ResumeState
  | .service => some .service
  | .drain => some .drain
  | .off => none
  | .check => none
  | .lockout => none

/-- The state a bin returns to from CHECK (R107, R108). -/
def ResumeState.state : ResumeState → BinState
  | .service => .service
  | .drain => .drain

/-- A bin record returned to its resume state, which becomes absent (R107, R108). -/
def BinRec.resumed (r : BinRec) : BinRec :=
  match r.resume with
  | some x => { r with state := x.state, resume := none }
  | none => r

/-- Whether a lot is in the lot hold list (R116). -/
def State.isHeld (s : State) (lot : LotNo) : Bool := s.lotHolds.contains lot

/-- The feeder that holds the reservations of a bin, if any (R195). -/
def BinRec.holder (r : BinRec) : Option Feeder := r.stack.findSome? (·.reserved)

/-- The number of reserved records of a bin (R195). -/
def BinRec.reservedCount (r : BinRec) : Nat := r.stack.countP fun x => x.reserved.isSome

/-! ## Claims (R139, R150) -/

/-- The bin a feeder claims: the one whose claim field names the feeder. -/
def State.claimOf (s : State) (f : Feeder) : Option BinId :=
  binsInOrder.find? fun b => (s.bin b).claim = some f

/-- A feeder's claim, if any, cleared. -/
def State.clearClaim (s : State) (f : Feeder) : State :=
  s.mapBins fun r => if r.claim = some f then { r with claim := none } else r

/-! ## The rule banks (R59, R68) -/

/-- A bank by its number. -/
def RuleBanks.bank (r : RuleBanks) : BankNo → Bank
  | .zero => r.bank0
  | .one => r.bank1

/-- The other bank number. -/
def BankNo.other : BankNo → BankNo
  | .zero => .one
  | .one => .zero

/-- The banks with one bank replaced. -/
def RuleBanks.setBank (r : RuleBanks) (n : BankNo) (b : Bank) : RuleBanks :=
  match n with
  | .zero => { r with bank0 := b }
  | .one => { r with bank1 := b }

/-- The exchange of the banks: the index changes, the serial rises by one, the mark is cleared, and SWAP_DONE is set
on all three ports (R68). -/
def State.exchange (s : State) : State :=
  { s with
    rules := { s.rules with active := s.rules.active.other, armed := false, serial := s.rules.serial + 1 } }.raiseAll
    .swapDone

/-- The exchange of an armed swap as the grading it waited for ends, by its completion or by a LINE RESTART: made when the
mark is set and the engine is IDLE (R58, R69). -/
def State.exchangeIfDue (s : State) : State :=
  if s.rules.armed ∧ s.engine = none then s.exchange else s

/-! ## The bin summary (R120, R195) -/

/-- The state code of a summary (R195). -/
def BinState.code : BinState → Nat
  | .off => 0
  | .service => 1
  | .drain => 2
  | .check => 3
  | .lockout => 4

/-- The mode bit of a summary (R195). -/
def BinMode.code : BinMode → Nat
  | .fixed => 0
  | .float => 1

/-- The resume state code of a summary (R195). -/
def resumeCode : Option ResumeState → Nat
  | none => 0
  | some .service => 1
  | some .drain => 2

/-- The seven-byte summary of a bin; that of an OFF bin is all zero (R195). -/
def State.summary (s : State) (b : BinId) : List Byte :=
  let r := s.bin b
  if r.state = .off then [0, 0, 0, 0, 0, 0, 0]
  else
    [u8 (binNumber b),
     u8 (r.state.code + 8 * r.mode.code + 16 * r.current.elim 0xF GradeClass.code),
     u8 r.capacity, u8 r.stack.length,
     u8 (s.inbound b + 4 * r.inFlight.length + 16 * feederCode r.claim + 64 * feederCode r.holder),
     u8 (r.reservedCount + 8 * bit r.questioned.isSome + 16 * bit r.stray + 32 * resumeCode r.resume +
       128 * bit r.uncertain),
     u8 (r.stack.countP (·.held))]

end Sys2Proof.Machine
end

