-- ==== Sys2Proof/Machine/Arbiter.lean ====
section
/-! DEFINITION. The Draw Arbiter's shared operations (spec/08) and the recipe position (spec/07): matching, effective
tops, eligible bins, grants, waits, claims, the search round, setting aside, re-serving and revocation. -/

namespace Sys2Proof.Machine

open Sys2Proof

/-! ## Calls (R140, R141) -/

/-- The front ply: an unserved or waiting patch first, then the front of the unserved list (R141). -/
def FeederRec.front (r : FeederRec) : Option PlyEntry :=
  match r.patch with
  | .unserved e => some e
  | .empty => r.unserved.head?
  | .granted _ => r.unserved.head?

/-- The call state (R141). -/
inductive CallState where
  | idle | serving | granted
  deriving DecidableEq, Repr

/-- The call state, derived from the unserved list and the call grants (R141). -/
def FeederRec.callState (r : FeederRec) : CallState :=
  if r.unserved ≠ [] then .serving else if r.grants ≠ [] then .granted else .idle

/-- A regular ply is a call ply whose re-served mark is clear (R140). -/
def PlyEntry.regular (e : PlyEntry) : Bool := !e.origin.isPatch && !e.reServed

/-! ## Finding a sheet (R144 to R146, R148) -/

/-- A sheet record matches a ply spec (R144). -/
def PlySpec.admits (sp : PlySpec) (x : Sheet) : Bool :=
  sp.classes.contains x.cls && (sp.width.all fun w => w == x.width) && sp.species.getLsbD x.species && !x.held

/-- Some record of the bin is reserved by a feeder. -/
def BinRec.reservedBy (r : BinRec) (f : Feeder) : Bool := r.stack.any fun x => x.reserved == some f

/-- The effective top of a bin for a feeder (R145). -/
def BinRec.effectiveTop (r : BinRec) (f : Feeder) : Option Sheet :=
  if r.reservedBy f.other then none else r.stack.reverse.find? fun x => x.reserved != some f

/-- The record taken as top: the highest unreserved record when the other feeder holds reservations, the effective
top otherwise (R148). -/
def BinRec.takenTop (r : BinRec) (f : Feeder) : Option Sheet :=
  if r.reservedBy f.other then r.stack.reverse.find? fun x => x.reserved == none else r.effectiveTop f

/-- The record bin `b` would give for a ply spec of feeder `f`, when the bin is eligible (R146). -/
def State.eligible (s : State) (f : Feeder) (sp : PlySpec) (b : BinId) : Option Sheet :=
  let r := s.bin b
  if r.state.working ∧ s.inbound b = 0 ∧ (r.claim = none ∨ r.claim = some f) then
    (r.effectiveTop f).filter sp.admits
  else none

/-- The record taken as top of bin `b`, when the bin is a blocked candidate for a ply spec of feeder `f` (R148). -/
def State.blocked (s : State) (f : Feeder) (sp : PlySpec) (b : BinId) : Option Sheet :=
  let r := s.bin b
  if r.state.working ∧ (0 < s.inbound b ∨ r.claim = some f.other ∨ r.reservedBy f.other) then
    (r.takenTop f).filter sp.admits
  else none

/-- A bin found for a ply: the record it offers, its class's place in the entry's list and its stack height. -/
structure Candidate where
  bin : BinId
  sheet : Sheet
  place : Nat
  height : Nat
  deriving DecidableEq, Repr

/-- One candidate ranks before another: by the place of the class, then by the fewer records; the lower bin number
breaks every remaining tie, since the bins are ranked in their order (R146). -/
def Candidate.before (x y : Candidate) : Bool :=
  decide (x.place < y.place) || (x.place == y.place && decide (x.height < y.height))

/-- The best of the bins for which `offers` gives a record (R146, R148). -/
def State.bestBin (s : State) (sp : PlySpec) (offers : BinId → Option Sheet) : Option Candidate :=
  pickBest Candidate.before (binsInOrder.filterMap fun b =>
    (offers b).map fun x => ⟨b, x, sp.classes.idxOf x.cls, (s.bin b).stack.length⟩)

/-! ## The recipe position (R129, R130, R131) -/

/-- The number of a head recipe, 0 when the queue is empty. -/
def headNumber (q : List Recipe) : RecipeNo := q.head?.elim 0 (·.number)

/-- The consumption of the head recipe (R130). -/
def FeederRec.consumed (r : FeederRec) : FeederRec × Followed :=
  match r.recipes with
  | _ :: second :: rest => ({ r with recipes := second :: rest, position := some 1 }, .next)
  | q =>
    match r.mode with
    | .repeating => ({ r with recipes := q, position := some 1 }, .repeated)
    | .runOut => ({ r with recipes := [], position := none }, .empty)

/-- A regular grant counted against the head recipe: the position advances, or the recipe is consumed with a RECIPE
CONSUMED outcome (R129 to R131). -/
def State.advanceRecipe (s : State) (f : Feeder) : State :=
  let r := s.feeder f
  match r.recipes.head?, r.position with
  | some head, some p =>
    if p < head.plies.length then s.setFeeder f { r with position := some (p + 1) }
    else
      let (r', followed) := r.consumed
      (s.setFeeder f r').send (.feeder f)
        (.recipeConsumed head.number followed r'.recipes.length (headNumber r'.recipes))
  | _, _ => s

/-! ## Grants (R147, R155) -/

/-- The reservation mark of the record of store number `n` set to `f` (R139). -/
def BinRec.mark (r : BinRec) (n : StoreNo) (f : Option Feeder) : BinRec :=
  { r with stack := r.stack.map fun x => if x.store = n then { x with reserved := f } else x }

/-- The feeder's record once its front ply has become a grant: a patch ply's grant is held in the patch slot, a call ply
leaves the unserved list for the end of the call grants (R147, steps 2 and 3). -/
def FeederRec.withGrant (r : FeederRec) (g : Grant) : FeederRec :=
  if g.entry.origin.isPatch then { r with patch := .granted g, waiting := none }
  else { r with unserved := r.unserved.tail, grants := r.grants ++ [g], waiting := none }

/-- The CALL END COMPLETE that a grant brings: always for a patch, with the count 1 of the patch grant, and for a call ply
when the unserved list is empty, with the call grants outstanding (R155, R198). -/
def State.endComplete (s : State) (f : Feeder) (patch : Bool) : State :=
  if patch then s.send (.feeder f) (.callEnd .complete true false 1 0 0)
  else if (s.feeder f).unserved = [] then
    s.send (.feeder f) (.callEnd .complete false false (s.feeder f).grants.length 0 0)
  else s

/-- The front ply `e` of feeder `f` granted the record `x` of bin `b` (R147). -/
def State.grantPly (s : State) (f : Feeder) (e : PlyEntry) (b : BinId) (x : Sheet) : State :=
  let waited := (s.feeder f).waiting.isSome
  let s := s.setBin b ((s.bin b).mark x.store (some f))
  let s := s.setFeeder f ((s.feeder f).withGrant ⟨e, b, x.store⟩)
  let s := if waited then s.clearClaim f else s
  let s := s.send (.feeder f) (.grant x.store b x.cls e.origin e.reServed)
  let s := if e.regular then s.advanceRecipe f else s
  let s := s.endComplete f e.origin.isPatch
  { s with firstTurn := f.other }

/-! ## Waits and claims (R149, R154, R161) -/

/-- Feeder `f` claims its target when the target carries no claim (R149, R154). -/
def State.claimTarget (s : State) (f : Feeder) (target : Option BinId) : State :=
  match target with
  | none => s
  | some b => if (s.bin b).claim = none then s.setBin b { s.bin b with claim := some f } else s

/-- The front ply becomes the waiting ply, with its full wait timeout (R149). -/
def State.startWait (s : State) (f : Feeder) (e : PlyEntry) : State :=
  let target := (s.bestBin e.spec (s.blocked f e.spec)).map (·.bin)
  (s.setFeeder f
    { s.feeder f with waiting := some ⟨target, s.now + (s.feeder f).timeout * 1000⟩ }).claimTarget f target

/-- The target of a waiting ply stays while it is a blocked candidate or in CHECK (R154). -/
def State.targetStays (s : State) (f : Feeder) (e : PlyEntry) (target : Option BinId) : Bool :=
  target.any fun b => (s.blocked f e.spec b).isSome || (s.bin b).state == .check

/-- The target of a waiting ply that no bin serves reconsidered (R154). -/
def State.reconsider (s : State) (f : Feeder) (e : PlyEntry) (w : Wait) : State :=
  if s.targetStays f e w.target then s.claimTarget f w.target
  else
    let target := (s.bestBin e.spec (s.blocked f e.spec)).map (·.bin)
    ((s.clearClaim f).setFeeder f { s.feeder f with waiting := some { w with target := target } }).claimTarget f
      target

/-- One feeder taken in a search round (R153): its front ply is granted from the best eligible bin, or it waits, or, when
it waits already, its target is reconsidered. The Bool says whether a grant was made, a wait begun or a claim
changed. -/
def State.serveFeeder (s : State) (f : Feeder) : State × Bool :=
  match (s.feeder f).front with
  | none => (s, false)
  | some e =>
    match s.bestBin e.spec (s.eligible f e.spec) with
    | some c => (s.grantPly f e c.bin c.sheet, true)
    | none =>
      match (s.feeder f).waiting with
      | none => (s.startWait f e, true)
      | some w =>
        let s' := s.reconsider f e w
        (s', decide (s'.claimOf f ≠ s.claimOf f))

/-- The feeders taken alternately until each has been taken once more in turn with nothing changed (R153). `quiet` is
the number of turns in a row that changed nothing. -/
def State.roundFrom (s : State) : Nat → Feeder → Nat → State
  | 0, _, _ => s
  | k + 1, f, quiet =>
    let out := s.serveFeeder f
    if out.2 then out.1.roundFrom k f.other 0
    else if quiet = 0 then out.1.roundFrom k f.other 1
    else out.1

/-- A search round that takes feeder `f` first (R153). -/
def State.searchRoundBy (s : State) (f : Feeder) : State := s.roundFrom Config.searchRoundTurns f 0

/-- A search round for a change the Grade Store hands over: the feeder of the first turn is taken first (R152, R153)
(DEDUCED, log entry 9). -/
def State.searchRound (s : State) : State := s.searchRoundBy s.firstTurn

/-- A waiting ply set aside: its timer stops, its target and claim are cleared, and it stays unserved in its place
(R161). -/
def State.setAside (s : State) (f : Feeder) : State :=
  if (s.feeder f).waiting.isSome then (s.setFeeder f { s.feeder f with waiting := none }).clearClaim f else s

/-! ## Lost grants (R160, R164) -/

/-- A re-served ply joins the unserved list ahead of every unserved ply and behind any ply re-served before it
(R160). -/
def insertReServed (e : PlyEntry) (l : List PlyEntry) : List PlyEntry :=
  l.takeWhile (·.reServed) ++ e :: l.dropWhile (·.reServed)

/-- The grant of a feeder that names a store number. -/
def FeederRec.grantOf (r : FeederRec) (n : StoreNo) : Option Grant :=
  match r.grants.find? fun g => g.store = n with
  | some g => some g
  | none =>
    match r.patch with
    | .granted g => if g.store = n then some g else none
    | .empty => none
    | .unserved _ => none

/-- The feeder's record without the grant that names a store number: from the call grants, or from the patch slot,
which becomes empty (R159). -/
def FeederRec.withoutGrant (r : FeederRec) (n : StoreNo) : FeederRec :=
  { r with
    grants := r.grants.filter fun g => g.store ≠ n
    patch := match r.patch with
      | .granted g => if g.store = n then .empty else .granted g
      | x => x }

/-- The ply of a lost grant re-served with its mark set: a call ply joins the unserved list, a patch ply returns to the
patch slot as UNSERVED (R160). -/
def FeederRec.reServe (r : FeederRec) (e : PlyEntry) : FeederRec :=
  let e' := { e with reServed := true }
  if e.origin.isPatch then { r with patch := .unserved e' }
  else { r with unserved := insertReServed e' r.unserved }

/-- The grant that names a store number lost and its ply re-served (R160, R164). -/
def FeederRec.loseGrant (r : FeederRec) (n : StoreNo) : FeederRec :=
  match r.grantOf n with
  | some g => (r.withoutGrant n).reServe g.entry
  | none => r

/-- One reservation of bin `b` revoked (R164): the mark is cleared, the grant is lost and re-served, and a GRANT REVOKED
outcome goes to the holder's port. -/
def State.revokeOne (s : State) (b : BinId) (f : Feeder) (n : StoreNo) : State :=
  let origin := ((s.feeder f).grantOf n).elim Origin.patch (·.entry.origin)
  let s := s.setBin b ((s.bin b).mark n none)
  let s := s.setFeeder f ((s.feeder f).loseGrant n)
  s.send (.feeder f) (.grantRevoked n b origin)

/-- Every reservation of bin `b`, held by feeder `f`, revoked from the top down, with REVOKED set once and any waiting ply
of `f` set aside (R164). -/
def State.revokeBin (s : State) (b : BinId) (f : Feeder) : State :=
  let marked := ((s.bin b).stack.reverse.filter fun x => x.reserved == some f).map (·.store)
  ((marked.foldl (fun t n => t.revokeOne b f n) s).raise (.feeder f) .revoked).setAside f

end Sys2Proof.Machine
end

