-- ==== Sys2Proof/Machine/Recipes.lean ====
section
/-! DEFINITION. Panel recipes (spec/07): RECIPE LOAD, RECIPE READ, FEEDER SETUP and the flush of FEEDER STOP. -/

namespace Sys2Proof.Machine

open Sys2Proof

/-- The recipe of a payload; none where check 2 of R126 answers BAD_ARG (R125, R126). -/
def recipeOf (l : List Byte) : Option Recipe :=
  let n := byteAt l 2
  if n = 0 ∨ Config.plyMax < n ∨ l.length ≠ 3 + 6 * n then none
  else (plySpecsAt l 3 n).map fun plies => ⟨BitVec.ofNat 16 (nat16At l 0), plies⟩

/-- A feeder's record with a recipe joined at the tail of its queue (R127). -/
def FeederRec.load (r : FeederRec) (x : Recipe) : FeederRec :=
  { r with recipes := r.recipes ++ [x], position := if r.recipes = [] then some 1 else r.position }

/-- RECIPE LOAD after the frame and port checks (R126, R127). -/
def recipeLoadBody (f : Feeder) (l : List Byte) (s : State) : Reply × State :=
  match recipeOf l with
  | none => refuse .badArg s
  | some x =>
    let r := s.feeder f
    if Config.recipeQueueDepth ≤ r.recipes.length then refuse .full (s.raise (.feeder f) .recipeOverflow)
    else
      ({ status := .ok, payload := [u8 (r.load x).recipes.length, u8 ((r.load x).position.getD 0)] },
        s.setFeeder f (r.load x))

/-- RECIPE LOAD (R126, R127). -/
def execRecipeLoad (p : Port) (f : Frame) (s : State) : Result := .next (takeFeeder 0x40 recipeLoadBody p f s)

/-- RECIPE READ after the frame and port checks (R137). -/
def recipeReadBody (f : Feeder) (l : List Byte) (s : State) : Reply × State :=
  let r := s.feeder f
  if l.length ≠ 1 ∨ 1 < byteAt l 0 then refuse .badArg s
  else if r.recipes = [] then (Reply.bare .ok, s)
  else
    ({ status := .ok
       payload := [u8 r.recipes.length, u8 (r.position.getD 0), u8 (byteAt l 0)] ++
         (r.recipes[byteAt l 0]?.elim [] Recipe.bytes) }, s)

/-- RECIPE READ (R137). -/
def execRecipeRead (p : Port) (f : Frame) (s : State) : Result := .next (takeFeeder 0x41 recipeReadBody p f s)

/-- The mode of a FEEDER SETUP mode byte. -/
def recipeMode : Nat → Option RecipeMode
  | 0 => some .runOut
  | 1 => some .repeating
  | _ => none

/-- The mode byte of a mode. -/
def RecipeMode.code : RecipeMode → Nat
  | .runOut => 0
  | .repeating => 1

/-- The patch slot is empty. -/
def PatchSlot.isEmpty : PatchSlot → Bool
  | .empty => true
  | .unserved _ => false
  | .granted _ => false

/-- FEEDER SETUP after the frame and port checks (R134, R135). -/
def feederSetupBody (f : Feeder) (l : List Byte) (s : State) : Reply × State :=
  let r := s.feeder f
  if l.length ≠ 3 then refuse .badArg s
  else
    match recipeMode (byteAt l 1) with
    | none => refuse .badArg s
    | some m =>
      if r.callState ≠ .idle ∨ !r.patch.isEmpty then refuse .busy s
      else
        let size := clamp 1 4 (byteAt l 0)
        let timeout := clamp 1 60 (byteAt l 2)
        ({ status := if size = byteAt l 0 ∧ timeout = byteAt l 2 then .ok else .clamped
           payload := [u8 size, u8 m.code, u8 timeout] },
          s.setFeeder f { r with groupSize := size, mode := m, timeout := timeout })

/-- FEEDER SETUP (R134, R135). -/
def execFeederSetup (p : Port) (f : Frame) (s : State) : Result := .next (takeFeeder 0x42 feederSetupBody p f s)

/-- The recipe queue flushed by the mode (R136). -/
def FeederRec.flushed (r : FeederRec) : FeederRec :=
  match r.mode, r.recipes with
  | .repeating, head :: _ => { r with recipes := [head], position := some 1 }
  | .repeating, [] => { r with recipes := [], position := none }
  | .runOut, _ => { r with recipes := [], position := none }

end Sys2Proof.Machine
end

