-- ==== Sys2Proof/Machine/Calls.lean ====
section
/-! DEFINITION. The feeder requests of the Draw Arbiter and the expiry of a wait (spec/08). -/

namespace Sys2Proof.Machine

open Sys2Proof

/-! ## PLY CALL (R142, R143, R128) -/

/-- The ply entries of a recipe from ply `k` on: the plies of places `k - 1`, `k`, … as call plies (R128, R143). -/
def entriesFrom (number : RecipeNo) : Nat → List PlySpec → List PlyEntry
  | _, [] => []
  | k, sp :: rest => ⟨sp, .call number k, false⟩ :: entriesFrom number (k + 1) rest

/-- The ply group a call copies from the head recipe at position `p` (R128). -/
def FeederRec.plyGroup (r : FeederRec) (head : Recipe) (p : Nat) : List PlyEntry :=
  entriesFrom head.number p ((head.plies.drop (p - 1)).take r.groupSize)

/-- PLY CALL after the frame and port checks (R142, R143). -/
def plyCallBody (f : Feeder) (l : List Byte) : State → Reply × State :=
  withoutPayload l fun s =>
    let r := s.feeder f
    if r.callState ≠ .idle then refuse .busy s
    else
      match r.recipes with
      | [] => refuse .noRecipe s
      | head :: _ =>
        let p := r.position.getD 1
        let group := r.plyGroup head p
        ({ status := .ok, payload := be16 head.number.toNat ++ [u8 p, u8 group.length] },
          (s.setFeeder f { r with unserved := group }).searchRoundBy f)

/-- PLY CALL (R142, R143). -/
def execPlyCall (p : Port) (f : Frame) (s : State) : Result := .next (takeFeeder 0x43 plyCallBody p f s)

/-! ## PATCH CALL (R162) -/

/-- PATCH CALL after the frame and port checks (R162). -/
def patchCallBody (f : Feeder) (l : List Byte) (s : State) : Reply × State :=
  if l.length ≠ 6 then refuse .badArg s
  else
    match plySpecAt l 0 with
    | none => refuse .badArg s
    | some sp =>
      if !(s.feeder f).patch.isEmpty then refuse .busy s
      else
        let t := s.setAside f
        (Reply.bare .ok,
          (t.setFeeder f { t.feeder f with patch := .unserved ⟨sp, .patch, false⟩ }).searchRoundBy f)

/-- PATCH CALL (R162). -/
def execPatchCall (p : Port) (f : Frame) (s : State) : Result := .next (takeFeeder 0x44 patchCallBody p f s)

/-! ## Picks (R158 to R160) -/

/-- A bin whose stack holds the record of store number `n` reserved by feeder `f` (R158). -/
def State.reservedIn (s : State) (f : Feeder) (n : StoreNo) : Option BinId :=
  binsInOrder.find? fun b => (s.bin b).stack.any fun x => x.store == n && x.reserved == some f

/-- The top record of a bin. -/
def BinRec.top (r : BinRec) : Option Sheet := r.stack.getLast?

/-- The top record of bin `b` off its stack (R159). -/
def State.popTop (s : State) (b : BinId) : State := s.setBin b { s.bin b with stack := (s.bin b).stack.dropLast }

/-- The pick checks (R158): the bin and the record when the pick is accepted, the refusal otherwise. -/
def pickBody (l : List Byte) (f : Feeder) (s : State) (accept : BinId → Sheet → State) : Reply × State :=
  if l.length ≠ 2 then refuse .badArg s
  else
    let n : StoreNo := BitVec.ofNat 16 (nat16At l 0)
    match s.reservedIn f n with
    | none => refuse .notGranted s
    | some b =>
      match (s.bin b).top with
      | none => refuse .notGranted s
      | some x =>
        if x.store ≠ n then refuse .order s
        else ({ status := .ok, payload := x.bytes }, accept b x)

/-- PICK DONE accepted for the top record `x` of bin `b` (R159). -/
def State.pickDone (s : State) (f : Feeder) (b : BinId) (x : Sheet) : State :=
  let t := s.popTop b
  (((t.setFeeder f ((t.feeder f).withoutGrant x.store)).bump (.picks f)).floatRelease b).searchRound

/-- PICK DONE after the frame and port checks (R158, R159). -/
def pickDoneBody (f : Feeder) (l : List Byte) (s : State) : Reply × State := pickBody l f s (s.pickDone f)

/-- PICK DONE (R158, R159). -/
def execPickDone (p : Port) (f : Frame) (s : State) : Result := .next (takeFeeder 0x45 pickDoneBody p f s)

/-- PICK FAILED accepted for the top record `x` of bin `b` (R160). -/
def State.pickFailed (s : State) (f : Feeder) (b : BinId) (x : Sheet) : State :=
  let t := s.popTop b
  ((((t.setFeeder f ((t.feeder f).loseGrant x.store)).bump (.pickLosses f)).setAside f).floatRelease b).searchRoundBy f

/-- PICK FAILED after the frame and port checks (R160). -/
def pickFailedBody (f : Feeder) (l : List Byte) (s : State) : Reply × State := pickBody l f s (s.pickFailed f)

/-- PICK FAILED (R160). -/
def execPickFailed (p : Port) (f : Frame) (s : State) : Result := .next (takeFeeder 0x46 pickFailedBody p f s)

/-! ## WAIT EXPIRY (R156) -/

/-- SHORTAGE set on the feeder's port and its shortage counted (R156). -/
def State.countShortage (s : State) (f : Feeder) : State := (s.raise (.feeder f) .shortage).bump (.shortages f)

/-- The timeout of a waiting call ply `e` (R156): the claim cleared, the unserved list dropped, CALL END SHORT, and a round
for the claim's clearing when there was one (R152). -/
def State.callTimeout (s : State) (f : Feeder) (e : PlyEntry) : State :=
  let claimed := (s.claimOf f).isSome
  let t := s.clearClaim f
  let r := { t.feeder f with unserved := [], waiting := none }
  let u := (((t.setFeeder f r).send (.feeder f)
    (.callEnd .short false e.reServed r.grants.length e.origin.recipe e.origin.ply))).countShortage f
  if claimed then u.searchRound else u

/-- The timeout of a waiting patch (R156, R198): the claim cleared, the slot emptied, CALL END SHORT with the patch mark
and the call grants outstanding, and the call resumed in a round with this feeder taken first. -/
def State.patchTimeout (s : State) (f : Feeder) : State :=
  let t := s.clearClaim f
  let r := { t.feeder f with patch := .empty, waiting := none }
  (((t.setFeeder f r).send (.feeder f) (.callEnd .short true false r.grants.length 0 0)).countShortage f).searchRoundBy f

/-- WAIT EXPIRY of a feeder (R156): the moment of its waiting ply's expiry has come. When no ply of the feeder waits nothing
is taken. -/
def State.waitExpiry (s : State) (f : Feeder) : State :=
  match (s.feeder f).waiting, (s.feeder f).front with
  | some w, some e =>
    let t := { s with now := max s.now w.expiry }
    if e.origin.isPatch then t.patchTimeout f else t.callTimeout f e
  | _, _ => s

/-- WAIT EXPIRY (R156). -/
def execWaitExpiry (f : Feeder) (s : State) : Result := .next (s.waitExpiry f)

/-! ## FEEDER STOP (R167) -/

/-- The patch grant, if any. -/
def PatchSlot.grant : PatchSlot → Option Grant
  | .granted g => some g
  | .empty => none
  | .unserved _ => none

/-- The ply of the patch slot that is not yet granted, if any. -/
def PatchSlot.ply : PatchSlot → Option PlyEntry
  | .unserved e => some e
  | .empty => none
  | .granted _ => none

/-- Every unpicked grant of a feeder, call grants first in the order made, then the patch grant (R169). -/
def FeederRec.allGrants (r : FeederRec) : List Grant := r.grants ++ r.patch.grant.toList

/-- The reservations of a list of grants cleared; the records stay where they are (R167). -/
def State.releaseMarks (s : State) (gs : List Grant) : State :=
  gs.foldl (fun t g => t.setBin g.bin ((t.bin g.bin).mark g.store none)) s

/-- The effect of an accepted FEEDER STOP (R167). -/
def State.stopFeeder (s : State) (f : Feeder) : State :=
  let r := s.feeder f
  let released := (s.clearClaim f).releaseMarks r.allGrants
  let idle := { r.flushed with unserved := [], grants := [], patch := .empty, waiting := none }
  let t := (released.setFeeder f idle).send (.feeder f) (.callEnd .stopped false false r.grants.length 0 0)
  let u := if r.patch.isEmpty then t
    else t.send (.feeder f) (.callEnd .stopped true false (bit r.patch.grant.isSome) 0 0)
  u.searchRound

/-- FEEDER STOP after the frame and port checks (R167). -/
def feederStopBody (f : Feeder) (l : List Byte) : State → Reply × State :=
  withoutPayload l fun s =>
    let r := s.feeder f
    ({ status := .ok
       payload := [u8 r.allGrants.length, u8 (r.unserved.length + bit r.patch.ply.isSome)] }, s.stopFeeder f)

/-- FEEDER STOP (R167). -/
def execFeederStop (p : Port) (f : Frame) (s : State) : Result := .next (takeFeeder 0x47 feederStopBody p f s)

/-! ## CALL STATUS (R169) -/

/-- The code of a call state (R169). -/
def CallState.code : CallState → Nat
  | .idle => 0
  | .serving => 1
  | .granted => 2

/-- The code of a patch state (R141, R169). -/
def PatchSlot.code : PatchSlot → Nat
  | .empty => 0
  | .unserved _ => 1
  | .granted _ => 2

/-- The waiting ply of a feeder: its front ply, while it waits (R139). -/
def FeederRec.waitingPly (r : FeederRec) : Option PlyEntry := if r.waiting.isSome then r.front else none

/-- The feeder code of the first turn (R169). -/
def Feeder.turnCode : Feeder → Nat
  | .A => 0
  | .B => 1

/-- The record of store number `n` in the stack of a bin is HELD. -/
def State.heldIn (s : State) (b : BinId) (n : StoreNo) : Bool := (s.bin b).stack.any fun x => x.store == n && x.held

/-- The five bytes of a grant in CALL STATUS (R169). -/
def State.grantBytes (s : State) (g : Grant) : List Byte :=
  [u8 g.entry.origin.ply, u8 (binNumber g.bin)] ++ be16 g.store.toNat ++
    [u8 (bit g.entry.origin.isPatch + 2 * bit g.entry.reServed + 4 * bit (s.heldIn g.bin g.store))]

/-- The payload of CALL STATUS for a feeder (R169). -/
def State.callStatus (s : State) (f : Feeder) : List Byte :=
  let r := s.feeder f
  let w := r.waitingPly
  [u8 r.callState.code, u8 r.patch.code] ++ be16 (headNumber r.recipes).toNat ++
    [u8 (r.position.getD 0), u8 (Feeder.turnCode s.firstTurn), u8 (w.elim 0 fun e => 1 + bit e.origin.isPatch)] ++
    be16 (w.elim 0 fun e => e.origin.recipe.toNat) ++
    [u8 (w.elim 0 fun e => e.origin.ply + 0x80 * bit e.reServed),
     u8 (optionBinNumber (r.waiting.bind (·.target))), u8 (optionBinNumber (s.claimOf f))] ++
    be16 (r.waiting.elim 0 fun x => x.expiry - s.now) ++
    [u8 r.unserved.length, u8 r.allGrants.length] ++ r.allGrants.flatMap s.grantBytes

/-- CALL STATUS after the frame and port checks (R169). -/
def callStatusBody (f : Feeder) (l : List Byte) : State → Reply × State :=
  withoutPayload l fun s => ({ status := .ok, payload := s.callStatus f }, s)

/-- CALL STATUS (R169). -/
def execCallStatus (p : Port) (f : Frame) (s : State) : Result := .next (takeFeeder 0x48 callStatusBody p f s)

end Sys2Proof.Machine
end

