-- ==== Sys2Proof/Machine/Reports.lean ====
section
/-! DEFINITION. Sheet reports and the Lane Monitor (spec/01): SHEET REPORT, READ LANES, the lane update and the lane
adjustment at ENTER RUN. -/

namespace Sys2Proof.Machine

open Sys2Proof

/-! ## Reading a report payload (R193) -/

/-- The lane mask of a report payload. -/
def maskAt (l : List Byte) : BitVec 8 := l.getD 11 0

/-- The defect `i` of a report payload; none where its kind or lane nibble is refused (R2, R193). -/
def defectAt (l : List Byte) (i : Nat) : Option Defect :=
  match DefectKind.ofCode (byteAt l (37 + 3 * i) / 16) with
  | none => none
  | some k =>
    let lane := byteAt l (37 + 3 * i) % 16
    if h : lane < 8 then
      if (maskAt l).getLsbD lane then some ⟨k, ⟨lane, h⟩, nat16At l (38 + 3 * i)⟩ else none
    else none

/-- The first `n` defects of a report payload from defect `i` on; none when one is refused. -/
def defectsAt (l : List Byte) : Nat → Nat → Option (List Defect)
  | _, 0 => some []
  | i, n + 1 =>
    match defectAt l i, defectsAt l (i + 1) n with
    | some d, some rest => some (d :: rest)
    | _, _ => none

/-- The report of a payload as received; none where check 3 of R2 answers BAD_ARG. A lane outside the mask has
neither its quality nor its moisture kept (R1). -/
def reportOf (fitted : Nat) (l : List Byte) : Option Report :=
  let n := byteAt l 36
  let mask := maskAt l
  if l.length < 37 ∨ l.length ≠ 37 + 3 * n ∨ Config.defectMax < n ∨ 15 < byteAt l 6 ∨ mask = 0 ∨
      (lanesInOrder.any fun i => decide (fitted ≤ i.val) && mask.getLsbD i.val) then none
  else
    match defectsAt l 0 n with
    | none => none
    | some ds => some
      { lineId := BitVec.ofNat 32 (nat32At l 0)
        lot := BitVec.ofNat 16 (nat16At l 4)
        species := byteAt l 6
        length := nat16At l 7
        width := nat16At l 9
        mask := mask
        quality := tabulateLanes fun i => if mask.getLsbD i.val then byteAt l (12 + i.val) else 0
        moisture := tabulateLanes fun i => if mask.getLsbD i.val then nat16At l (20 + 2 * i.val) else 0
        defects := ds }

/-- The clamping of an accepted report (R3). -/
def Report.clamped (r : Report) : Report :=
  { r with
    length := clamp 300 3000 r.length
    width := clamp 100 1400 r.width
    moisture := tabulateLanes fun i => if r.mask.getLsbD i.val then clamp 0 400 r.moisture[i] else 0
    defects := r.defects.map fun d => { d with size := clamp 1 1023 d.size } }

/-- A SHEET REPORT refused: the reports refused counter increments and nothing else changes (R2). -/
def refuseReport (st : Status) (s : State) : Reply × State := (Reply.bare st, s.bump .reportsRefused)

/-- SHEET REPORT after the frame check: the checks of R2 in their order, then acceptance (R3). -/
def takeReport (p : Port) (l : List Byte) (s : State) : Reply × State :=
  if p ≠ .line then refuseReport .wrongPort s
  else if s.mode = .setup then refuseReport .notRunning s
  else
    match reportOf s.activeLayout.laneCount l with
    | none => refuseReport .badArg s
    | some r =>
      if Config.reportQueueDepth ≤ s.reports.length then refuseReport .full s
      else
        let s' := { s with reports := s.reports ++ [r.clamped] }.bump .reportsAccepted
        ({ status := if r.clamped = r then .ok else .clamped, payload := [u8 s'.reports.length] }, s')

/-- SHEET REPORT (R2, R3). -/
def execSheetReport (p : Port) (f : Frame) (s : State) : Result := .next (takeAny 0x01 takeReport p f s)

/-! ## The lane update (R7, R8) -/

/-- The state, bad run and good run after a reading, by the bands of q (R8). `low` and `strong` are the bands, a
reading that is neither is adequate. -/
def LaneRec.moved (nLost nBack : Nat) (low strong : Bool) (r : LaneRec) : LaneRec :=
  match r.state with
  | .good =>
    if low then
      if nLost ≤ 1 then { r with state := .lost, badRun := 0, goodRun := 0 }
      else { r with state := .suspect, badRun := 1, goodRun := 0 }
    else r
  | .suspect =>
    if low then
      if nLost ≤ r.badRun + 1 then { r with state := .lost, badRun := 0 }
      else { r with badRun := r.badRun + 1 }
    else { r with state := .good, badRun := 0 }
  | .lost =>
    if strong then
      if nBack ≤ 1 then { r with state := .good, badRun := 0, goodRun := 0 }
      else { r with state := .recovering, badRun := 0, goodRun := 1 }
    else r
  | .recovering =>
    if strong then
      if nBack ≤ r.goodRun + 1 then { r with state := .good, goodRun := 0 }
      else { r with goodRun := r.goodRun + 1 }
    else { r with state := .lost, goodRun := 0 }

/-- The update of one lane by a quality figure: a low reading increments the error count, which saturates, and the
state and runs change by R8 (R7). -/
def LaneRec.updated (y : Layout) (q : Nat) (r : LaneRec) : LaneRec :=
  let low := decide (q < y.qLow)
  { r.moved y.nLost y.nBack low (!low && decide (y.qHigh ≤ q)) with
    errors := if low then min (r.errors + 1) Config.laneErrorMax else r.errors }

/-- The lane update from a report: each lane of its mask once, the others left (R7). -/
def State.updateLanes (s : State) (r : Report) : State :=
  { s with
    lanes := tabulateLanes fun i =>
      if r.mask.getLsbD i.val then s.lanes[i].updated s.activeLayout r.quality[i] else s.lanes[i] }

/-- The usable-lane set of a report: the lanes of its mask that are GOOD or SUSPECT (R10). -/
def State.usableLanes (s : State) (r : Report) : BitVec 8 :=
  lanesInOrder.foldl (fun m i =>
    if r.mask.getLsbD i.val && s.lanes[i].state.usable then m ||| (1#8 <<< i.val) else m) 0#8

/-! ## Lanes at ENTER RUN (R15) -/

/-- Whether a layout changes one of the four lane thresholds (R15). -/
def thresholdsDiffer (old new : Layout) : Bool :=
  old.qLow != new.qLow || old.qHigh != new.qHigh || old.nLost != new.nLost || old.nBack != new.nBack

/-- The lane record with both runs and the error count 0: SUSPECT becomes GOOD and RECOVERING becomes LOST
(R15). -/
def LaneRec.restarted (r : LaneRec) : LaneRec :=
  match r.state with
  | .good => { state := .good }
  | .suspect => { state := .good }
  | .lost => { state := .lost }
  | .recovering => { state := .lost }

/-- The adjustment of the lane records when `new` replaces `old` (R15). -/
def State.adjustLanes (s : State) (old new : Layout) : State :=
  { s with
    lanes := tabulateLanes fun i =>
      if new.laneCount ≤ i.val then {}
      else if thresholdsDiffer old new then s.lanes[i].restarted else s.lanes[i] }

/-! ## READ LANES (R13, R14) -/

/-- The smallest exponent from `e` on for which the count shifted right is 15 or less; 15 when there is none. -/
def errorExponent (c : Nat) : Nat → Nat → Nat
  | 0, e => e
  | k + 1, e => if c / 2 ^ e ≤ 15 then e else errorExponent c k (e + 1)

/-- The compressed form of a lane error count: exponent high, mantissa low, 0xFF from 491,520 on (R13). -/
def errorByte (c : Nat) : Byte :=
  let e := errorExponent c 15 0
  if 491520 ≤ c then 0xFF else u8 (e * 16 + c / 2 ^ e)

/-- The state code of a lane (R14). -/
def LaneState.code : LaneState → Nat
  | .good => 0
  | .suspect => 1
  | .lost => 2
  | .recovering => 3

/-- The run that READ LANES gives: the bad run in SUSPECT, the good run in RECOVERING, else 0 (R14). -/
def LaneRec.run (r : LaneRec) : Nat :=
  match r.state with
  | .good => 0
  | .suspect => r.badRun
  | .lost => 0
  | .recovering => r.goodRun

/-- The three bytes of a lane in READ LANES (R14). -/
def LaneRec.bytes (r : LaneRec) : List Byte := [u8 r.state.code, u8 r.run, errorByte r.errors]

/-- READ LANES after the frame check (R14). -/
def readLanesBody (_ : Port) (l : List Byte) : State → Reply × State :=
  withoutPayload l fun s =>
    ({ status := .ok
       payload := u8 s.activeLayout.laneCount :: lanesInOrder.flatMap fun i => s.lanes[i].bytes }, s)

/-- READ LANES (R14). -/
def execReadLanes (p : Port) (f : Frame) (s : State) : Result := .next (takeAny 0x56 readLanesBody p f s)

end Sys2Proof.Machine
end

