-- ==== Sys2Proof/Machine/RuleBanks.lean ====
section
/-! DEFINITION. The rule banks (spec/04): RULE WRITE, RULE READ, RULE SWAP, bank validation and the exchange of an
armed swap. -/

namespace Sys2Proof.Machine

open Sys2Proof

/-- The length of a rule group's fields (R60); none above group 5. -/
def ruleGroupLength : Nat → Option Nat
  | 0 => some 6
  | 1 => some 8
  | 2 => some 8
  | 3 => some 8
  | 4 => some 8
  | 5 => some 11
  | _ => none

/-- The appearance grade, by its place A 0 to D 3, that groups 1 to 4 hold (R60). -/
def gradeOfGroup (g : Nat) : Option (Fin 4) := if h : 1 ≤ g ∧ g ≤ 4 then some ⟨g - 1, by omega⟩ else none

/-- The fields of group 0 as sent, at offset 1 of the payload. -/
def sentWeights (l : List Byte) : Vector Nat 6 :=
  #v[byteAt l 1, byteAt l 2, byteAt l 3, byteAt l 4, byteAt l 5, byteAt l 6]

/-- The fields of a grade group as sent. -/
def sentLimits (l : List Byte) : GradeLimits :=
  { knotMax := nat16At l 1, openMax := byteAt l 3, splitMax := nat16At l 4, stainOk := byteAt l 6 == 1,
    densityMax := nat16At l 7 }

/-- A bank with the fields of a group replaced by those sent (R60). -/
def Bank.withGroup (b : Bank) (g : Nat) (l : List Byte) : Bank :=
  match gradeOfGroup g with
  | some k => { b with grade := b.grade.set k (sentLimits l) }
  | none =>
    if g = 0 then { b with weight := sentWeights l }
    else
      { b with
        coreDensityMax := nat16At l 1, coreOpenMax := byteAt l 3, wetLaneLimit := nat16At l 4
        wetMeanLimit := nat16At l 6, wFull := nat16At l 8, wHalf := nat16At l 10 }

/-- The clamps of a grade group (R61). -/
def GradeLimits.clamped (x : GradeLimits) : GradeLimits :=
  { x with
    knotMax := clamp 1 1023 x.knotMax, openMax := clamp 0 24 x.openMax, splitMax := clamp 0 9999 x.splitMax
    densityMax := clamp 0 65535 x.densityMax }

/-- The weights clamped (R61). -/
def clampWeights (w : Vector Nat 6) : Vector Nat 6 :=
  #v[clamp 0 15 w[0], clamp 0 15 w[1], clamp 0 15 w[2], clamp 0 15 w[3], clamp 0 15 w[4], clamp 0 15 w[5]]

/-- The fields of a group of a bank clamped, each on its own against its own range (R61). -/
def Bank.clampGroup (b : Bank) (g : Nat) : Bank :=
  match gradeOfGroup g with
  | some k => { b with grade := b.grade.set k b.grade[k].clamped }
  | none =>
    if g = 0 then { b with weight := clampWeights b.weight }
    else
      { b with
        coreDensityMax := clamp 0 65535 b.coreDensityMax, coreOpenMax := clamp 0 24 b.coreOpenMax
        wetLaneLimit := clamp 0 400 b.wetLaneLimit, wetMeanLimit := clamp 0 400 b.wetMeanLimit
        wFull := clamp 100 1400 b.wFull, wHalf := clamp 100 1400 b.wHalf }

/-- The fields of a grade group in their layout (R60). -/
def GradeLimits.bytes (x : GradeLimits) : List Byte :=
  be16 x.knotMax ++ [u8 x.openMax] ++ be16 x.splitMax ++ [u8 (bit x.stainOk)] ++ be16 x.densityMax

/-- The fields of a group of a bank in their layout (R60). -/
def Bank.groupBytes (b : Bank) (g : Nat) : List Byte :=
  match gradeOfGroup g with
  | some k => b.grade[k].bytes
  | none =>
    if g = 0 then b.weight.toList.map u8
    else
      be16 b.coreDensityMax ++ [u8 b.coreOpenMax] ++ be16 b.wetLaneLimit ++ be16 b.wetMeanLimit ++
        be16 b.wFull ++ be16 b.wHalf

/-- The standby bank's number. -/
def RuleBanks.standby (r : RuleBanks) : BankNo := r.active.other

/-- The first check of R62: the group number and the payload length. -/
def ruleWriteFits (l : List Byte) : Bool :=
  match ruleGroupLength (byteAt l 0) with
  | some n => l.length == 1 + n
  | none => false

/-- The second check of R62: the stain_ok byte of a grade group is 0x00 or 0x01. -/
def stainByteFits (l : List Byte) : Bool := (gradeOfGroup (byteAt l 0)).isNone || decide (byteAt l 6 ≤ 1)

/-- RULE WRITE after the frame check (R62, R63). -/
def ruleWriteBody (_ : Port) (l : List Byte) (s : State) : Reply × State :=
  if !ruleWriteFits l then refuse .badArg s
  else if !stainByteFits l then refuse .badArg s
  else if s.rules.armed then refuse .busy s
  else
    let n := s.rules.standby
    let g := byteAt l 0
    let sent := (s.rules.bank n).withGroup g l
    let kept := sent.clampGroup g
    ({ status := if kept = sent then .ok else .clamped
       payload := u8 n.code :: u8 g :: kept.groupBytes g },
      { s with rules := s.rules.setBank n kept })

/-- RULE WRITE (R62, R63). -/
def execRuleWrite (p : Port) (f : Frame) (s : State) : Result := .next (takeAny 0x10 ruleWriteBody p f s)

/-- The bank of a bank number byte; none above 1. -/
def bankOfNumber : Nat → Option BankNo
  | 0 => some .zero
  | 1 => some .one
  | _ => none

/-- RULE READ after the frame check (R64). -/
def ruleReadBody (_ : Port) (l : List Byte) (s : State) : Reply × State :=
  match bankOfNumber (byteAt l 0), ruleGroupLength (byteAt l 1) with
  | some n, some _ =>
    if l.length = 2 then
      ({ status := .ok
         payload := [u8 s.rules.active.code, u8 (bit s.rules.armed)] ++ be16 s.rules.serial.toNat ++
           [u8 n.code, u8 (byteAt l 1)] ++ (s.rules.bank n).groupBytes (byteAt l 1) }, s)
    else refuse .badArg s
  | _, _ => refuse .badArg s

/-- RULE READ (R64). -/
def execRuleRead (p : Port) (f : Frame) (s : State) : Result := .next (takeAny 0x11 ruleReadBody p f s)

/-! ## Bank validation (R65) -/

/-- The first field, by index, in which a grade is stricter than the grade before it; none when there is none. -/
def limitsFault (before here : GradeLimits) : Option Nat :=
  if here.knotMax < before.knotMax then some 0
  else if here.openMax < before.openMax then some 1
  else if here.splitMax < before.splitMax then some 2
  else if before.stainOk && !here.stainOk then some 3
  else if here.densityMax < before.densityMax then some 4
  else none

/-- The first check of R65 that a bank fails, named by group and field; none when it satisfies validation. -/
def Bank.fault (b : Bank) : Option (Nat × Nat) :=
  match limitsFault b.grade[0] b.grade[1] with
  | some i => some (2, i)
  | none =>
    match limitsFault b.grade[1] b.grade[2] with
    | some i => some (3, i)
    | none =>
      match limitsFault b.grade[2] b.grade[3] with
      | some i => some (4, i)
      | none =>
        if b.coreDensityMax < b.grade[3].densityMax then some (5, 0)
        else if b.coreOpenMax < b.grade[3].openMax then some (5, 1)
        else if b.wFull ≤ b.wHalf then some (5, 5)
        else none

/-- RULE SWAP after the frame check (R66, R67). -/
def ruleSwapBody (_ : Port) (l : List Byte) : State → Reply × State :=
  withoutPayload l fun s =>
    if s.rules.armed then refuse .busy s
    else
      match (s.rules.bank s.rules.standby).fault with
      | some (g, i) => ({ status := .invalid, payload := [u8 g, u8 i] }, s)
      | none =>
        let s' := if s.engine = none then s.exchange else { s with rules := { s.rules with armed := true } }
        ({ status := .ok, payload := u8 (bit s'.rules.armed) :: be16 s'.rules.serial.toNat }, s')

/-- RULE SWAP (R66, R67). -/
def execRuleSwap (p : Port) (f : Frame) (s : State) : Result := .next (takeAny 0x12 ruleSwapBody p f s)

end Sys2Proof.Machine
end

