-- ==== Sys2Proof/Machine/Grading.lean ====
section
/-! DEFINITION. The grading computation in its six stages (spec/03, R39 to R52), as a pure function of the report, the
usable-lane set and the bank. -/

namespace Sys2Proof.Machine

open Sys2Proof

/-- The usable lanes of a grading in order: those in the mask and in the usable-lane set (R39). -/
def usableList (mask usable : BitVec 8) : List LaneId :=
  lanesInOrder.filter fun i => mask.getLsbD i.val && usable.getLsbD i.val

/-! ## Stage 2: moisture (R40, R41) -/

/-- The greatest of a list of readings, 0 when it is empty (R40). -/
def greatest (l : List Nat) : Nat := l.foldl max 0

/-- The mean of readings of sum `sum` and number `n`, rounded to the nearest with halves up (R40). -/
def roundedMean (sum n : Nat) : Nat := (2 * sum + n) / (2 * n)

/-- The sheet is wet when a limit is passed; a reading equal to a limit does not make it wet (R41). -/
def isWet (b : Bank) (mx mn : Nat) : Bool := decide (b.wetLaneLimit < mx) || decide (b.wetMeanLimit < mn)

/-! ## Stage 3: width class (R42) -/

/-- The width class of a width against a bank (R42). -/
def widthClass (b : Bank) (w : Nat) : WidthClass :=
  if b.wFull ≤ w then .full else if b.wHalf ≤ w then .half else .strip

/-! ## Stage 4: defect figures (R43 to R46) -/

/-- The defects whose lane is usable (R43). -/
def countedDefects (usable : List LaneId) (ds : List Defect) : List Defect := ds.filter fun d => usable.contains d.lane

/-- The points of a defect: its kind's weight times its size, taken as at most 255 mm (R43). -/
def defectPoints (b : Bank) (d : Defect) : Nat := b.weight[d.kind.code] * min d.size Config.scoredSizeMax

/-- The raw score, the sum of the points (R43). -/
def rawScore (b : Bank) (ds : List Defect) : Nat := (ds.map (defectPoints b)).sum

/-- The area in square centimetres over the covered width (R44). -/
def coveredArea (length width nUsable nCovered : Nat) : Nat := (length / 10) * (width * nUsable / nCovered / 10)

/-- The defect density, saturating at 65535 (R45). -/
def defectDensity (score area : Nat) : Nat := min (score * 10000 / area) Config.densityMax

/-- The largest knot (R46). -/
def largestKnot (ds : List Defect) : Nat :=
  greatest ((ds.filter fun d => d.kind == .soundKnot || d.kind == .openKnot).map (·.size))

/-- The open count (R46). -/
def openCount (ds : List Defect) : Nat := ds.countP fun d => d.kind == .openKnot || d.kind == .hole

/-- The split total (R46). -/
def splitTotal (ds : List Defect) : Nat := ((ds.filter fun d => d.kind == .split).map (·.size)).sum

/-- Whether the sheet is stained (R46). -/
def isStained (ds : List Defect) : Bool := ds.any fun d => d.kind == .stain

/-- The figures the class decision takes (R45, R46). -/
structure Figures where
  density : Nat
  knot : Nat
  openings : Nat
  split : Nat
  stained : Bool
  deriving DecidableEq, Repr

/-! ## Stage 5: the class decision (R47 to R51) -/

/-- The first of the five tests that a sheet fails against the limits of a grade, in the order KNOT, OPEN, SPLIT, STAIN,
DENSITY; `Reason.none` when all hold (R48). -/
def firstFailing (g : GradeLimits) (x : Figures) : Reason :=
  if g.knotMax < x.knot then .knot
  else if g.openMax < x.openings then .opening
  else if g.splitMax < x.split then .split
  else if x.stained && !g.stainOk then .stain
  else if g.densityMax < x.density then .density
  else .none

/-- A grade passes when all five tests hold (R48). -/
def gradePasses (g : GradeLimits) (x : Figures) : Bool := firstFailing g x == .none

/-- The appearance grades as classes, A to D. -/
def appearanceClass (i : Fin 4) : GradeClass :=
  match i with
  | 0 => .A
  | 1 => .B
  | 2 => .C
  | 3 => .D

/-- The grades tested from the starting grade downward (R49). -/
def gradesFrom (capped : Bool) : List (Fin 4) := if capped then [2, 3] else [0, 1, 2, 3]

/-- The class of a dry sheet that is no strip: the first grade from the start that passes, else core or reject
(R49, R50). -/
def appearanceDecision (b : Bank) (capped : Bool) (x : Figures) : GradeClass :=
  match (gradesFrom capped).find? fun i => gradePasses b.grade[i] x with
  | some i => appearanceClass i
  | none => if x.density ≤ b.coreDensityMax ∧ x.openings ≤ b.coreOpenMax then .K else .R

/-- The starting grade, A or C, by its place (R47). -/
def startingGrade (capped : Bool) : Fin 4 := if capped then 2 else 0

/-! ## Stage 6: the result (R52) -/

/-- The result of a report that no usable lane covers (R39, R52). -/
def noScanResult (bank : BankNo) (serial : Serial) : GradeResult :=
  { cls := none, density := 0, moistMax := 0, moistMean := 0, width := none, degraded := true, capped := false,
    reason := .noScan, bank := bank, serial := serial }

/-- The grading computation (R39 to R52). -/
def gradeReport (b : Bank) (bank : BankNo) (serial : Serial) (r : Report) (usable : BitVec 8) : GradeResult :=
  let lanes := usableList r.mask usable
  let nU := lanes.length
  let nV := laneCountOf r.mask
  if nU = 0 then noScanResult bank serial
  else
    let m := lanes.map fun i => r.moisture[i]
    let mx := greatest m
    let mn := roundedMean m.sum nU
    let w := widthClass b r.width
    let ds := countedDefects lanes r.defects
    let x : Figures :=
      { density := defectDensity (rawScore b ds) (coveredArea r.length r.width nU nV)
        knot := largestKnot ds, openings := openCount ds, split := splitTotal ds, stained := isStained ds }
    let degraded := decide (nU < nV)
    let wet := isWet b mx mn
    let graded := !wet && w != .strip
    let capped := graded && (degraded || w == .half)
    { cls := some (if wet then .W else if w = .strip then .N else appearanceDecision b capped x)
      density := x.density, moistMax := mx, moistMean := mn, width := some w, degraded := degraded, capped := capped
      reason :=
        if wet then .wet else if w = .strip then .strip else firstFailing b.grade[startingGrade capped] x
      bank := bank, serial := serial }

end Sys2Proof.Machine
end

