-- ==== Sys2Proof/Machine/Routing.lean ====
section
/-! DEFINITION. The Router and the Gate Unit (spec/05): the choice of a bin, the writing of a gate entry, GATE OPEN and
GATE CLOSE. -/

namespace Sys2Proof.Machine

open Sys2Proof

/-! ## Entries (R73, R74) -/

/-- The open position of a sheet at a gate, modulo 65536 (R73). -/
def openPosition (lead : Pos) (gate gateLead : Nat) : Pos := lead + BitVec.ofNat 16 gate - BitVec.ofNat 16 gateLead

/-- The close position of a sheet at a gate, modulo 65536 (R73). -/
def closePosition (trail : Pos) (gate tail : Nat) : Pos := trail + BitVec.ofNat 16 gate + BitVec.ofNat 16 tail

/-- A gate can take an entry with open position `o` when its lead slot is empty, or when its follow slot is empty and
`o` lies beyond the lead entry's close position (R74). -/
def Gate.takes (g : Gate) (p o : Pos) : Bool :=
  match g.lead with
  | none => true
  | some e => g.follow.isNone && decide (forwardDistance p e.closePos < forwardDistance p o)

/-! ## The Router's choice (R77, R78) -/

/-- The kind of a bin for a class (R77, R78): FIXED of the class 0, FLOAT of the class 1, FLOAT without a class 2; none
when the bin takes another class. -/
def BinRec.kindFor (r : BinRec) (c : GradeClass) : Option Nat :=
  match r.mode, r.current with
  | .fixed, some x => if x = c then some 0 else none
  | .fixed, none => none
  | .float, some x => if x = c then some 1 else none
  | .float, none => some 2

/-- The conditions of R77 but for the class: state, claim, reservations, inbound, capacity and gate. -/
def State.binOpenTo (s : State) (b : BinId) (lead : Pos) : Bool :=
  let r := s.bin b
  r.state == .service && r.claim == none && r.reservedCount == 0 && decide (s.inbound b ≤ Config.inboundAdmit) &&
    decide (r.stack.length + s.inbound b < r.capacity) &&
    (s.gate b).takes s.tracker.pos (openPosition lead r.gate s.activeLayout.lead)

/-- A candidate bin of the Router: its kind and its stack count plus inbound count (R78). -/
structure RouteChoice where
  bin : BinId
  kind : Nat
  sum : Nat
  deriving DecidableEq, Repr

/-- One candidate ranks before another: by kind, then by the greater sum; the lower bin number breaks every remaining
tie, since the bins are ranked in their order (R78). -/
def RouteChoice.before (x y : RouteChoice) : Bool :=
  decide (x.kind < y.kind) || (x.kind == y.kind && decide (y.sum < x.sum))

/-- The candidate that bin `b` is for a sheet of class `c`; none when it is none (R77). -/
def State.routeCandidate (s : State) (c : GradeClass) (lead : Pos) (b : BinId) : Option RouteChoice :=
  if s.binOpenTo b lead then
    ((s.bin b).kindFor c).map fun k => ⟨b, k, (s.bin b).stack.length + s.inbound b⟩
  else none

/-- The bin the Router chooses (R78). -/
def State.chooseBin (s : State) (c : GradeClass) (lead : Pos) : Option BinId :=
  (pickBest RouteChoice.before (binsInOrder.filterMap (s.routeCandidate c lead))).map (·.bin)

/-! ## Writing the choice (R79) -/

/-- A gate with an entry written: into the lead slot when it is empty, with the gate opened at once when the open position
is the present position, and into the follow slot otherwise (R73, R79). -/
def Gate.written (g : Gate) (n : StoreNo) (p o c : Pos) : Gate :=
  match g.lead with
  | none => { g with lead := some ⟨n, o, c, decide (o = p)⟩, output := decide (o = p) }
  | some _ => { g with follow := some ⟨n, o, c, false⟩ }

/-- A bin record once the Router has chosen it: a FLOAT bin without a class takes the sheet's (R79). -/
def BinRec.taking (r : BinRec) (c : GradeClass) : BinRec :=
  if r.mode = .float ∧ r.current = none then { r with current := some c } else r

/-- The Router's action on the record `r` of class `c` (R75 to R80): RUNOUT(HELD_LOT) when the lot is held, else BIN(b) with
a gate entry, else RUNOUT(NO_ROOM). -/
def State.routeSheet (s : State) (r : TrackRec) (c : GradeClass) : State :=
  if r.paired.any fun i => s.isHeld i.lot then s.setDisposition r.store (.runout .heldLot)
  else
    match s.chooseBin c r.lead with
    | none => s.setDisposition r.store (.runout .noRoom)
    | some b =>
      let x := s.bin b
      let o := openPosition r.lead x.gate s.activeLayout.lead
      let e := closePosition (r.trail.elim 0 (·.pos)) x.gate s.activeLayout.tail
      ((s.setDisposition r.store (.bin b)).setGate b ((s.gate b).written r.store s.tracker.pos o e)).setBin b
        (x.taking c)

/-! ## Working the gates (R82 to R84) -/

/-- P stands at the open position of the unopened lead entry of gate `b`. -/
def State.openDue (s : State) (b : BinId) : Bool :=
  (s.gate b).lead.any fun e => !e.opened && e.openPos == s.tracker.pos

/-- P stands at the close position of the lead entry of gate `b`. -/
def State.closeDue (s : State) (b : BinId) : Bool := (s.gate b).lead.any fun e => e.closePos == s.tracker.pos

/-- The lead entry of gate `b` opened and the output on (R82). -/
def State.openGate (s : State) (b : BinId) : State :=
  s.setGate b { s.gate b with lead := (s.gate b).lead.map fun e => { e with opened := true }, output := true }

/-- The sheet record a tracking record hands over, with the reservation and the HELD mark clear (R83, R96). -/
def TrackRec.sheet (r : TrackRec) : Option Sheet :=
  match r.paired, r.result with
  | some i, some g =>
    match g.cls, g.width with
    | some c, some w => some
      { store := r.store, lineId := i.lineId, lot := i.lot, length := i.length, density := g.density, cls := c
        width := w, species := i.species, degraded := g.degraded, capped := g.capped }
    | _, _ => none
  | _, _ => none

/-- The in-flight record that a hand-over appends to a bin's list (R83); none when no record of the store number is in
the queue. -/
def State.handOver (s : State) (n : StoreNo) : List InFlight :=
  (((s.record? n).bind TrackRec.sheet).map fun x => ⟨x, s.now + s.activeLayout.window⟩).toList

/-- The gate once its lead entry has closed: the output off, the follow entry moved up (R83). -/
def Gate.closed (g : Gate) : Gate := { lead := g.follow, follow := none, output := false }

/-- The close of the lead entry `e` of gate `b` (R83, R84): the sheet joins the in-flight list of a bin in SERVICE,
DRAIN or CHECK, and is lost in another bin. FLOAT release follows (R115). A loss that leaves nothing inbound is handed
to the Arbiter (R105). An OFF bin is taken as one in LOCKOUT (DESIGN CHOICE, log entry 13). -/
def State.closeGate (s : State) (b : BinId) (e : GateEntry) : State :=
  let sheets := s.handOver e.store
  let s' := (s.setGate b (s.gate b).closed).setQueue (removeRecord e.store s.tracker.queue)
  if (s.bin b).state.working ∨ (s.bin b).state = .check then
    (s'.setBin b { s'.bin b with inFlight := (s'.bin b).inFlight ++ sheets }).floatRelease b
  else
    let lost := (s'.bump .lostAtGateClose).floatRelease b
    if lost.inbound b = 0 then lost.searchRound else lost

/-- GATE OPEN of a bin: the opening of its lead entry when P stands at its open position (R82). When it does not, no gate
opens. -/
def State.gateOpenEvent (s : State) (b : BinId) : State := if s.openDue b then s.openGate b else s

/-- GATE CLOSE of a bin: the close of its lead entry when P stands at its close position (R83). When it does not, no gate
closes. -/
def State.gateCloseEvent (s : State) (b : BinId) : State :=
  match (s.gate b).lead with
  | some e => if e.closePos = s.tracker.pos then s.closeGate b e else s
  | none => s

/-- GATE OPEN (R82). -/
def execGateOpen (b : BinId) (s : State) : Result := .next (s.gateOpenEvent b)

/-- GATE CLOSE (R83, R84). -/
def execGateClose (b : BinId) (s : State) : Result := .next (s.gateCloseEvent b)

end Sys2Proof.Machine
end

