-- ==== Sys2Proof/Machine/Tracking.lean ====
section
/-! DEFINITION. The Conveyor Tracker (spec/02): the position counter, the eye, the deadlines of a record, pairing, LINE
RESTART and READ TRACKING. An event of a position is due while P stands at that position and the event has not been taken;
its command takes it then, and an encoder pulse takes first what is still due at the present count. -/

namespace Sys2Proof.Machine

open Sys2Proof

/-! ## The deadlines of a record (R23, R24, R25) -/

/-- The record at the tail of the tracking queue. -/
def State.tailRecord (s : State) : Option TrackRec := s.tracker.queue.getLast?

/-- A queue with its tail record changed. -/
def changeTail (f : TrackRec → TrackRec) (q : List TrackRec) : List TrackRec :=
  match q.getLast? with
  | none => q
  | some r => q.dropLast ++ [f r]

/-- The long-object check is due: a tracked object blocks the eye, P stands 3000 mm past its leading edge, and its record
has no LONG mark yet (R23). -/
def State.longDue (s : State) : Bool :=
  match s.tracker.eye with
  | .blockedTracked _ => s.tailRecord.any fun r =>
      !r.long && s.tracker.pos == r.lead + BitVec.ofNat 16 Config.longObjectTravel
  | .clear => false
  | .blockedUntracked => false

/-- LONG OBJECT: the tail record is marked LONG and becomes RUNOUT(LONG) (R23). When the check is not due nothing is
taken. -/
def State.longObjectEvent (s : State) : State :=
  if s.longDue then
    (s.setQueue (changeTail (fun r => { r with long := true, disp := .runout .long }) s.tracker.queue)).bump
      .longObjects
  else s

/-- The decision expiry of a record is due (R24). -/
def TrackRec.expiryDue (r : TrackRec) (p : Pos) : Bool := !r.expiryTaken && r.expiryPos == p

/-- The record after its expiry: a PENDING disposition becomes RUNOUT(LATE), every other stays (R24). -/
def TrackRec.afterExpiry (r : TrackRec) : TrackRec :=
  { r with expiryTaken := true, disp := if r.disp = .pending then .runout .late else r.disp }

/-- DECISION EXPIRY of the record of store number `n` (R24). When it is not due nothing is taken. -/
def State.expiryEvent (s : State) (n : StoreNo) : State :=
  match s.record? n with
  | none => s
  | some r =>
    if r.expiryDue s.tracker.pos then
      let s' := s.setQueue (changeRecord n TrackRec.afterExpiry s.tracker.queue)
      if r.disp = .pending then s'.raiseAll .late else s'
    else s

/-- The end of the line of a record is due: P stands at its end-of-line position and it is bound for no bin (R25,
R86). -/
def TrackRec.endDue (r : TrackRec) (p : Pos) : Bool :=
  (r.trail.any fun t => t.endPos == p) &&
    (match r.disp with
     | .bin _ => false
     | .pending => true
     | .runout _ => true)

/-- The run-out of a record leaving at the end of the line counted under its cause (R25). -/
def State.countRunout (s : State) (d : Disposition) : State :=
  match d with
  | .runout c => s.bump (.runout c)
  | .pending => s
  | .bin _ => s

/-- The further effects of a removal at the end of the line, by the report state (R25). -/
def State.reportUnpaired (s : State) (r : TrackRec) : State :=
  match r.report with
  | .none =>
    if r.long then s
    else (s.bump .unreported).send .line (.sheetUnreported r.store r.lead (r.trail.elim 0 (·.eyeLength)))
  | .skipped => s.bump .unreported
  | .grading => s
  | .graded => s

/-- END OF LINE of the record of store number `n` (R25). When it is not due nothing is taken. -/
def State.endOfLineEvent (s : State) (n : StoreNo) : State :=
  match s.record? n with
  | none => s
  | some r =>
    if r.endDue s.tracker.pos then
      ((s.setQueue (removeRecord n s.tracker.queue)).countRunout r.disp).reportUnpaired r
    else s

/-- LONG OBJECT (R23). -/
def execLongObject (s : State) : Result := .next s.longObjectEvent

/-- DECISION EXPIRY (R24). -/
def execDecisionExpiry (n : StoreNo) (s : State) : Result := .next (s.expiryEvent n)

/-- END OF LINE (R25). -/
def execEndOfLine (n : StoreNo) (s : State) : Result := .next (s.endOfLineEvent n)

/-! ## The position counter (R16, R17, R18) -/

/-- The store numbers of the tracking queue, oldest first. -/
def State.tracked (s : State) : List StoreNo := s.tracker.queue.map (·.store)

/-- Every event still due at the present count taken, in a fixed order: the long-object check, expiries, gate
openings, gate closes, ends of line. An event of a position is taken at the count that reaches it (R17), so none is
left behind when P moves on (DEDUCED, log entry 4). -/
def State.settlePosition (s : State) : State :=
  let s := s.longObjectEvent
  let s := s.tracked.foldl State.expiryEvent s
  let s := binsInOrder.foldl State.gateOpenEvent s
  let s := binsInOrder.foldl State.gateCloseEvent s
  s.tracked.foldl State.endOfLineEvent s

/-- One more forward count seen by a tracked object at the eye, saturating (R22). -/
def EyeState.counted : EyeState → EyeState
  | .blockedTracked n => .blockedTracked (min (n + 1) Config.eyeLengthMax)
  | .clear => .clear
  | .blockedUntracked => .blockedUntracked

/-- A forward step pays back backlash, or advances P by one (R17). -/
def Tracker.forwardStep (t : Tracker) : Tracker :=
  if 0 < t.backlash then { t with backlash := t.backlash - 1 }
  else { t with pos := t.pos + 1, eye := t.eye.counted }

/-- The eye state once the record of the object at the eye has been removed (R19). -/
def EyeState.untracked : EyeState → EyeState
  | .blockedTracked _ => .blockedUntracked
  | .clear => .clear
  | .blockedUntracked => .blockedUntracked

/-- The conveyor accounts emptied by a reversal fault or a LINE RESTART: every record of the tracking queue removed, every
gate emptied with FLOAT release, the backlash 0 and a tracked object at the eye untracked (R18, R31, R90, R115). -/
def State.clearConveyor (s : State) : State :=
  ({ s with
    tracker := { s.tracker with queue := [], backlash := 0, eye := s.tracker.eye.untracked } }.emptyGates).floatReleaseAll

/-- A search round when a bin's inbound count, above 0 in `before`, has reached 0 (R105, R122). -/
def State.roundIfInboundGone (s before : State) : State := if s.someInboundGone before then s.searchRound else s

/-- The reversal fault (R18). -/
def State.takeReversal (s : State) : State :=
  let s' := ((s.clearConveyor).bumpBy .reversalLosses s.tracker.queue.length).raiseAll .reversal
  s'.roundIfInboundGone s

/-- A reverse step adds one to the backlash, or is a reversal fault when that would bring it above 200 (R17, R18). -/
def State.reverseStep (s : State) : State :=
  if s.tracker.backlash < Config.backlashMax then
    { s with tracker := { s.tracker with backlash := s.tracker.backlash + 1 } }
  else s.takeReversal

/-- The state with the divide residue replaced. -/
def State.setResidue (s : State) (n : Nat) : State := { s with tracker := { s.tracker with residue := n } }

/-- A forward encoder pulse (R16). -/
def State.forwardPulse (s : State) : State :=
  if s.activeLayout.divide ≤ s.tracker.residue + 1 then
    let t := s.setResidue 0
    { t with tracker := t.tracker.forwardStep }
  else s.setResidue (s.tracker.residue + 1)

/-- A reverse encoder pulse (R16). -/
def State.reversePulse (s : State) : State :=
  if s.tracker.residue = 0 then (s.setResidue (s.activeLayout.divide - 1)).reverseStep
  else s.setResidue (s.tracker.residue - 1)

/-- ENC PULSE (R16, R17): what is still due at the present count is taken, then the pulse. -/
def execEncPulse (d : Direction) (s : State) : Result :=
  match d with
  | .forward => .next s.settlePosition.forwardPulse
  | .reverse => .next s.settlePosition.reversePulse

/-- A reverse encoder pulse now would take a reverse step that brings the backlash above 200 (R18). -/
def State.reversalDue (s : State) : Bool :=
  s.tracker.residue == 0 && decide (Config.backlashMax ≤ s.tracker.backlash)

/-- REVERSAL FAULT (R18): the reverse encoder pulse whose step would bring the backlash to 201. When a reverse pulse
would not do so there is no such event and nothing changes (DEDUCED, log entry 5). -/
def execReversalFault (s : State) : Result :=
  .next (if s.reversalDue then s.settlePosition.reversePulse else s)

/-! ## The tracking eye (R19, R22) -/

/-- A leading edge in SETUP, or in RUN with a full queue, is an untracked object (R19). -/
def State.untrackedEdge (s : State) : State :=
  { s with tracker := { s.tracker with eye := .blockedUntracked } }.bump .untracked

/-- A leading edge in RUN with room in the queue: a record joins at the tail with the next store number, and its expiry
position is set (R19, R20, R34). -/
def State.trackedEdge (s : State) : State :=
  let n := s.nextStore
  let r : TrackRec :=
    { store := n, lead := s.tracker.pos, expiryPos := s.tracker.pos + BitVec.ofNat 16 s.activeLayout.decision }
  { s with
    tracker := { s.tracker with
      eye := .blockedTracked 0, storeCounter := n, queue := s.tracker.queue ++ [r] } }.bump .sheetsTracked

/-- EYE LEADING EDGE (R19). A rise needs a clear eye: with the eye blocked there is none and nothing changes (DESIGN
CHOICE, log entry 3). -/
def execEyeLeadingEdge (s : State) : Result :=
  match s.tracker.eye with
  | .clear =>
    if s.mode = .setup then .next s.untrackedEdge
    else if Config.trackingQueueDepth ≤ s.tracker.queue.length then .next (s.untrackedEdge.raiseAll .trackOverflow)
    else .next s.trackedEdge
  | .blockedTracked _ => .next s
  | .blockedUntracked => .next s

/-- The state with the eye clear. -/
def State.clearEye (s : State) : State := { s with tracker := { s.tracker with eye := .clear } }

/-- A trailing edge of a tracked object of eye length `n`: a fragment's record leaves, another's takes its trailing
position, eye length and end-of-line position (R22). -/
def State.trackedTrailingEdge (s : State) (n : Nat) : State :=
  if n < Config.fragmentLength then (s.clearEye.setQueue s.tracker.queue.dropLast).bump .fragments
  else
    s.clearEye.setQueue (changeTail (fun r =>
      { r with trail := some ⟨s.tracker.pos, n, s.tracker.pos + BitVec.ofNat 16 s.activeLayout.lineEnd⟩ })
      s.tracker.queue)

/-- EYE TRAILING EDGE (R19, R22). A fall needs a blocked eye: with the eye clear there is none and nothing changes
(DESIGN CHOICE, log entry 3). -/
def execEyeTrailingEdge (s : State) : Result :=
  match s.tracker.eye with
  | .clear => .next s
  | .blockedUntracked => .next s.clearEye
  | .blockedTracked n => .next (s.trackedTrailingEdge n)

/-! ## Pairing (R26 to R30) -/

/-- A pairing candidate: report state NONE and LONG mark clear (R26). -/
def TrackRec.isCandidate (r : TrackRec) : Bool := r.report == .none && !r.long

/-- The pairing candidates, oldest first (R26). -/
def State.candidates (s : State) : List TrackRec := s.tracker.queue.filter TrackRec.isCandidate

/-- The pairing is deferred while the first candidate has no trailing edge (R26). -/
def State.deferred (s : State) : Bool := s.candidates.head?.any fun r => r.trail.isNone

/-- A pairing decision is due: a head report, an idle engine, no deferral (R26). -/
def State.pairingDue (s : State) : Bool := !s.reports.isEmpty && s.engine.isNone && !s.deferred

/-- A record with a trailing edge whose eye length differs from `len` by at most the tolerance (R27). -/
def TrackRec.fits (tolerance len : Nat) (r : TrackRec) : Bool :=
  r.trail.any fun t => decide (t.eyeLength - len ≤ tolerance) && decide (len - t.eyeLength ≤ tolerance)

/-- The head report `r` has left the queue, with `rest` behind it, and updated the lanes (R5, R7). -/
def State.takeHead (s : State) (r : Report) (rest : List Report) : State :=
  { s with reports := rest }.updateLanes r

/-- An orphan (R29). -/
def State.orphan (s : State) (r : Report) (rest : List Report) : State :=
  (((s.takeHead r rest).send .line (.orphan r.lineId r.length)).raiseAll .orphan).bump .orphans

/-- A record that has paired with a report (R30). -/
def TrackRec.pairedWith (r : Report) (x : TrackRec) : TrackRec :=
  { x with report := .grading, paired := some ⟨r.lineId, r.lot, r.species, r.length⟩ }

/-- The head report paired with the record of store number `n`, and the grading started (R30, R36). -/
def State.pairWith (s : State) (r : Report) (rest : List Report) (n : StoreNo) : State :=
  let t := (s.takeHead r rest).setQueue (changeRecord n (TrackRec.pairedWith r) s.tracker.queue)
  let usable := t.usableLanes r
  { t with
    engine := some
      { report := r, store := n, usable := usable, usableCount := laneCountOf usable
        coveredCount := laneCountOf r.mask, bank := t.rules.active, serial := t.rules.serial } }

/-- The record skipped by a pairing (R28). -/
def TrackRec.skippedBy (x : TrackRec) : TrackRec :=
  { x with report := .skipped, disp := if x.disp = .pending then .runout .unreported else x.disp }

/-- The first candidate skipped with its SHEET UNREPORTED outcome (R28). -/
def State.skip (s : State) (x : TrackRec) : State :=
  (s.setQueue (changeRecord x.store TrackRec.skippedBy s.tracker.queue)).send .line
    (.sheetUnreported x.store x.lead (x.trail.elim 0 (·.eyeLength)))

/-- The decision for the head report `r` (R27, R28). -/
def State.decidePairing (s : State) (r : Report) (rest : List Report) : State :=
  match s.candidates with
  | [] => s.orphan r rest
  | c1 :: more =>
    if c1.fits s.activeLayout.tolerance r.length then s.pairWith r rest c1.store
    else
      match more with
      | [] => s.orphan r rest
      | c2 :: _ =>
        if c2.fits s.activeLayout.tolerance r.length then (s.skip c1).pairWith r rest c2.store
        else s.orphan r rest

/-- PAIRING DECISION (R26 to R30). While no decision is due nothing is taken. -/
def State.pairingEvent (s : State) : State :=
  if s.pairingDue then
    match s.reports with
    | [] => s
    | r :: rest => (s.decidePairing r rest).takeConditions s
  else s

/-- PAIRING DECISION (R26 to R30). -/
def execPairingDecision (s : State) : Result := .next s.pairingEvent

/-! ## LINE RESTART and READ TRACKING (R31, R33) -/

/-- The effect of an accepted LINE RESTART (R31, R38). -/
def State.restartLine (s : State) : State :=
  let t := { s.clearConveyor with reports := [], engine := none }.bumpBy .restartLosses s.tracker.queue.length
  t.exchangeIfDue.roundIfInboundGone s

/-- LINE RESTART after the frame check (R31). -/
def lineRestartBody (_ : Port) (l : List Byte) : State → Reply × State :=
  withoutPayload l fun s =>
    ({ status := .ok
       payload := [u8 s.tracker.queue.length, u8 (s.reports.length + bit s.engine.isSome)] }, s.restartLine)

/-- LINE RESTART (R31). -/
def execLineRestart (p : Port) (f : Frame) (s : State) : Result := .next (takeAny 0x02 lineRestartBody p f s)

/-- READ TRACKING after the frame check (R33). -/
def readTrackingBody (_ : Port) (l : List Byte) (s : State) : Reply × State :=
  if l.length ≠ 1 ∨ 23 < byteAt l 0 then refuse .badArg s
  else
    ({ status := .ok
       payload := [u8 s.tracker.queue.length, u8 (byteAt l 0)] ++
         ((s.tracker.queue.drop (byteAt l 0)).take Config.trackingReadMax).flatMap TrackRec.bytes }, s)

/-- READ TRACKING (R33). -/
def execReadTracking (p : Port) (f : Frame) (s : State) : Result := .next (takeAny 0x03 readTrackingBody p f s)

end Sys2Proof.Machine
end

