-- ==== Sys2Proof/Machine/Completion.lean ====
section
/-! DEFINITION. The completion of a grading (spec/03, R53 to R58), and with it the exchange of an armed swap (R69). -/

namespace Sys2Proof.Machine

open Sys2Proof

/-- The result of the grading in hand (R39 to R52). -/
def State.gradingResult (s : State) (g : Grading) : GradeResult :=
  gradeReport (s.rules.bank g.bank) g.bank g.serial g.report g.usable

/-- The record bound to the grading, while it is still in the tracking queue (R53) (DEDUCED, log entry 14). -/
def State.boundRecord (s : State) (g : Grading) : Option TrackRec :=
  s.tracker.queue.find? fun r => r.store = g.store && r.report == .grading

/-- A completion counted under its class; a NO_SCAN completion counts none (R57). -/
def State.countGrade (s : State) (x : GradeResult) : State :=
  match x.cls with
  | some c => s.bump (.graded c)
  | none => s

/-- The record with its result (R53). -/
def TrackRec.withResult (x : GradeResult) (r : TrackRec) : TrackRec := { r with report := .graded, result := some x }

/-- The disposition of the bound record `r` settled (R54). -/
def State.settleDisposition (s : State) (r : TrackRec) (x : GradeResult) : State :=
  match r.disp, x.cls with
  | .pending, some c => s.routeSheet r c
  | .pending, none => s.setDisposition r.store (.runout .noScan)
  | _, _ => s

/-- The decision that SHEET DECIDED reports: the disposition of the record, LATE when it has gone (R55, R56). -/
def State.decisionOf (s : State) (n : StoreNo) : Disposition := (s.record? n).elim (.runout .late) (·.disp)

/-- A completion that finds its record: the result is written and the disposition settled (R53, R54). -/
def State.completeRecord (s : State) (g : Grading) (r : TrackRec) (x : GradeResult) : State :=
  (s.setQueue (changeRecord g.store (TrackRec.withResult x) s.tracker.queue)).settleDisposition r x

/-- The report released and the engine IDLE; where a swap is armed the banks exchange at this point (R58, R69). -/
def State.releaseEngine (s : State) : State := { s with engine := none }.exchangeIfDue

/-- GRADING COMPLETION (R53 to R58): the result is counted, the record settled when it is still in the queue, SHEET DECIDED
sent to the Line Port and the report released, with the exchange of an armed swap. While the engine is IDLE there is no
completion and nothing changes. -/
def State.completionEvent (s : State) : State :=
  match s.engine with
  | none => s
  | some g =>
    let x := s.gradingResult g
    match s.boundRecord g with
    | none =>
      ((s.countGrade x).send .line (.sheetDecided g.report.lineId g.store (.runout .late) x)).releaseEngine
    | some r =>
      let t := (s.countGrade x).completeRecord g r x
      (t.send .line (.sheetDecided g.report.lineId g.store (t.decisionOf g.store) x)).releaseEngine

/-- GRADING COMPLETION (R53 to R58). -/
def execGradingCompletion (s : State) : Result := .next s.completionEvent

/-- The exchange of an armed swap (R58, R69). It is made within the completion of the grading the swap waits for, so the
command is that completion with a swap armed (DEDUCED, log entry 6). A swap armed with the engine IDLE, which no run
reaches (R179), is exchanged; with no swap armed there is no such exchange and nothing changes. -/
def execArmedSwapExchange (s : State) : Result :=
  .next (if s.rules.armed then s.completionEvent.exchangeIfDue else s)

end Sys2Proof.Machine
end

