-- ==== Sys2Proof/Machine/LayoutModes.lean ====
section
/-! DEFINITION. Line layout and operating modes (spec/09): LAYOUT WRITE, LAYOUT READ, ENTER RUN and ENTER SETUP. -/

namespace Sys2Proof.Machine

open Sys2Proof

/-! ## Layout groups (R171, R173) -/

/-- The bin of a bin group; none for group 0 and above 16 (R171). -/
def binOfGroup (g : Nat) : Option BinId := binOfNumber g

/-- The length of a layout group's fields; none above group 16 (R171). -/
def layoutGroupLength (g : Nat) : Option Nat :=
  if g = 0 then some 17 else (binOfGroup g).map fun _ => 5

/-- The mode byte of a bin group: 0x00 to 0x07 FIXED with a class, 0xFF FLOAT; none otherwise (R171, R172). -/
def layoutMode (n : Nat) : Option (Option GradeClass) :=
  if n = 0xFF then some none else (GradeClass.ofCode n).map some

/-- The code of a bin group's mode (R171). -/
def layoutModeCode (m : Option GradeClass) : Nat := m.elim 0xFF GradeClass.code

/-- The line group as sent, stored over a layout. -/
def Layout.withLine (y : Layout) (l : List Byte) : Layout :=
  { y with
    laneCount := byteAt l 1, divide := byteAt l 2, decision := nat16At l 3, lead := nat16At l 5, tail := nat16At l 7
    lineEnd := nat16At l 9, tolerance := byteAt l 11, window := nat16At l 12, qLow := byteAt l 14
    qHigh := byteAt l 15, nLost := byteAt l 16, nBack := byteAt l 17 }

/-- The divide clamped to 1, 2, 4 or 8 (R173). -/
def clampDivide (n : Nat) : Nat := if n ≤ 1 then 1 else if n ≤ 3 then 2 else if n ≤ 7 then 4 else 8

/-- The line group clamped, each field on its own (R173). -/
def Layout.clampLine (y : Layout) : Layout :=
  { y with
    laneCount := clamp 1 8 y.laneCount, divide := clampDivide y.divide, decision := clamp 3200 27000 y.decision
    lead := clamp 0 400 y.lead, tail := clamp 0 400 y.tail, lineEnd := clamp 4000 29000 y.lineEnd
    tolerance := clamp 0 100 y.tolerance, window := clamp 50 2000 y.window
    nLost := clamp 1 15 y.nLost, nBack := clamp 1 63 y.nBack }

/-- A bin group as sent. -/
def sentBin (l : List Byte) (m : Option GradeClass) : BinLayout :=
  { fitted := byteAt l 1 == 1, gate := nat16At l 2, capacity := byteAt l 4, fixedClass := m }

/-- A bin group clamped (R173). -/
def BinLayout.clamped (x : BinLayout) : BinLayout :=
  { x with gate := clamp 3500 28000 x.gate, capacity := clamp 10 200 x.capacity }

/-- The fields of the line group in their layout (R171). -/
def Layout.lineBytes (y : Layout) : List Byte :=
  [u8 y.laneCount, u8 y.divide] ++ be16 y.decision ++ be16 y.lead ++ be16 y.tail ++ be16 y.lineEnd ++
    [u8 y.tolerance] ++ be16 y.window ++ [u8 y.qLow, u8 y.qHigh, u8 y.nLost, u8 y.nBack]

/-- The fields of a bin group in their layout (R171). -/
def BinLayout.bytes (x : BinLayout) : List Byte :=
  [u8 (bit x.fitted)] ++ be16 x.gate ++ [u8 x.capacity, u8 (layoutModeCode x.fixedClass)]

/-- The fields of a group in their layout (R171). -/
def Layout.groupBytes (y : Layout) (g : Nat) : List Byte :=
  match binOfGroup g with
  | some b => y.bins[b].bytes
  | none => y.lineBytes

/-! ## LAYOUT WRITE and LAYOUT READ (R172 to R174) -/

/-- The pending layout with the group of a payload stored, as sent and as clamped; none where check 2 of R172 fails. -/
def Layout.withGroup (y : Layout) (l : List Byte) : Option (Layout × Layout) :=
  match binOfGroup (byteAt l 0) with
  | none => some (y.withLine l, (y.withLine l).clampLine)
  | some b =>
    if 1 < byteAt l 1 then none
    else
      (layoutMode (byteAt l 5)).map fun m =>
        ({ y with bins := y.bins.set b (sentBin l m) }, { y with bins := y.bins.set b (sentBin l m).clamped })

/-- The first check of R172: the group number and the payload length. -/
def layoutWriteFits (l : List Byte) : Bool :=
  match layoutGroupLength (byteAt l 0) with
  | some n => l.length == 1 + n
  | none => false

/-- LAYOUT WRITE after the frame check (R172, R173). -/
def layoutWriteBody (_ : Port) (l : List Byte) (s : State) : Reply × State :=
  if !layoutWriteFits l then refuse .badArg s
  else
    match s.pendingLayout.withGroup l with
    | none => refuse .badArg s
    | some (sent, held) =>
      if s.mode = .run then refuse .wrongState s
      else
        ({ status := if held = sent then .ok else .clamped
           payload := u8 (byteAt l 0) :: held.groupBytes (byteAt l 0) }, { s with pendingLayout := held })

/-- LAYOUT WRITE (R172, R173). -/
def execLayoutWrite (p : Port) (f : Frame) (s : State) : Result := .next (takeAny 0x18 layoutWriteBody p f s)

/-- The code of a device mode (R174). -/
def DeviceMode.code : DeviceMode → Nat
  | .setup => 0
  | .run => 1

/-- LAYOUT READ after the frame check (R174). -/
def layoutReadBody (_ : Port) (l : List Byte) (s : State) : Reply × State :=
  if l.length ≠ 2 ∨ 1 < byteAt l 0 ∨ 16 < byteAt l 1 then refuse .badArg s
  else
    let y := if byteAt l 0 = 0 then s.pendingLayout else s.activeLayout
    ({ status := .ok
       payload := [u8 s.mode.code, u8 (byteAt l 0), u8 (byteAt l 1)] ++ y.groupBytes (byteAt l 1) }, s)

/-- LAYOUT READ (R174). -/
def execLayoutRead (p : Port) (f : Frame) (s : State) : Result := .next (takeAny 0x19 layoutReadBody p f s)

/-! ## ENTER RUN (R176, R177, R122) -/

/-- A check of the validation that fails: its number and the group and field it names (R176). -/
structure LayoutFault where
  check : Nat
  group : Nat
  field : Nat
  deriving DecidableEq, Repr

/-- A bin that is not OFF holds something that keeps it from being unfitted (R176, check 5). -/
def State.holdsSheets (s : State) (b : BinId) : Bool :=
  (s.bin b).state != .off &&
    (!(s.bin b).stack.isEmpty || decide (0 < s.inbound b) || (s.bin b).questioned.isSome)

/-- The checks 3, 4 and 5 of one bin (R176). -/
def State.binFault (s : State) (b : BinId) : Option LayoutFault :=
  let y := s.pendingLayout
  let x := y.bins[b]
  if x.fitted then
    if x.gate < y.decision + y.lead then some ⟨3, binNumber b, 1⟩
    else if y.lineEnd ≤ x.gate + y.tail then some ⟨4, binNumber b, 1⟩
    else none
  else if s.holdsSheets b then some ⟨5, binNumber b, 0⟩
  else none

/-- The first check of the validation that fails; none when the pending layout passes (R176). -/
def State.layoutFault (s : State) : Option LayoutFault :=
  if s.pendingLayout.qHigh ≤ s.pendingLayout.qLow then some ⟨1, 0, 9⟩
  else if s.pendingLayout.lineEnd ≤ s.pendingLayout.decision then some ⟨2, 0, 5⟩
  else binsInOrder.findSome? s.binFault

/-- A bin holds a record, stacked, in flight or questioned (R122). -/
def BinRec.holdsRecord (r : BinRec) : Bool := !r.stack.isEmpty || !r.inFlight.isEmpty || r.questioned.isSome

/-- The mode of a bin layout. -/
def BinLayout.mode (x : BinLayout) : BinMode := if x.fixedClass.isSome then .fixed else .float

/-- The adjustment of one bin record against the new active layout (R122). -/
def BinRec.adjusted (r : BinRec) (x : BinLayout) : BinRec :=
  if x.fitted then
    if r.state = .off then
      { r with state := .service, mode := x.mode, current := x.fixedClass, capacity := x.capacity, gate := x.gate }
    else
      { r with
        mode := x.mode, capacity := x.capacity, gate := x.gate
        current := if x.fixedClass.isSome then x.fixedClass else if r.holdsRecord then r.current else none }
  else
    { r with
      state := .off, mode := .float, current := none, stray := false, uncertain := false, claim := none
      resume := none, capacity := x.capacity, gate := x.gate }

/-- Every bin adjusted against the active layout (R122). -/
def State.adjustBins (s : State) : State :=
  { s with bins := tabulateBins fun b => (s.bin b).adjusted s.activeLayout.bins[b] }

/-- A bin's state has changed or its claim has been cleared since `before` (R177). -/
def State.binsChanged (s before : State) : Bool :=
  binsInOrder.any fun b =>
    (s.bin b).state != (before.bin b).state || ((before.bin b).claim.isSome && (s.bin b).claim.isNone)

/-- The residue at ENTER RUN: 0 when the divide changes, kept otherwise (R16). -/
def State.residueFor (s : State) (new : Layout) : Nat :=
  if s.activeLayout.divide = new.divide then s.tracker.residue else 0

/-- The effect of an ENTER RUN that passes validation (R177). -/
def State.enterRun (s : State) : State :=
  let new := s.pendingLayout
  let t := { s with
    activeLayout := new, tracker := { s.tracker with residue := s.residueFor new }, mode := .run }
  let u := (t.adjustLanes s.activeLayout new).adjustBins
  (if u.binsChanged s then u.searchRound else u).takeConditions s

/-- The number of bins a layout fits. -/
def Layout.fittedCount (y : Layout) : Nat := binsInOrder.countP fun b => y.bins[b].fitted

/-- ENTER RUN after the frame check (R176, R177). -/
def enterRunBody (_ : Port) (l : List Byte) : State → Reply × State :=
  withoutPayload l fun s =>
    if s.mode = .run then refuse .wrongState s
    else
      match s.layoutFault with
      | some x => ({ status := .invalid, payload := [u8 x.check, u8 x.group, u8 x.field] }, s)
      | none =>
        ({ status := .ok, payload := [u8 s.pendingLayout.fittedCount, u8 s.pendingLayout.laneCount] }, s.enterRun)

/-- ENTER RUN (R176, R177). -/
def execEnterRun (p : Port) (f : Frame) (s : State) : Result := .next (takeAny 0x1A enterRunBody p f s)

/-! ## ENTER SETUP (R179) -/

/-- The part holds nothing undecided or ungraded: no tracking record, no report, no grading (R179). -/
def State.lineIdle (s : State) : Bool := s.tracker.queue.isEmpty && s.reports.isEmpty && s.engine.isNone

/-- ENTER SETUP after the frame check (R179). -/
def enterSetupBody (_ : Port) (l : List Byte) : State → Reply × State :=
  withoutPayload l fun s =>
    match s.mode with
    | .setup => (Reply.bare .ok, s)
    | .run => if s.lineIdle then (Reply.bare .ok, { s with mode := .setup }) else refuse .wrongState s

/-- ENTER SETUP (R179). -/
def execEnterSetup (p : Port) (f : Frame) (s : State) : Result := .next (takeAny 0x1B enterSetupBody p f s)

end Sys2Proof.Machine
end

