-- ==== Sys2Proof/Machine/PortEvents.lean ====
section
/-! DEFINITION. The port parser's own events (spec/10, R182 to R189) and the device reset (R181). An event that needs
another parser state than the one the port is in does not come about there, and nothing changes. -/

namespace Sys2Proof.Machine

open Sys2Proof

/-- SEL FALL: a DESELECTED parser goes to REQUEST with no byte taken (R182) (DESIGN CHOICE, log entry 3). -/
def execSelFall (p : Port) (s : State) : Result :=
  match (s.port p).parser with
  | .deselected => .next (s.setParser p .request)
  | .request => .next s
  | .preparing _ => .next s
  | .replying _ => .next s
  | .trailing => .next s
  | .discarding => .next s

/-- EMPTY SELECTION: SEL rises in REQUEST before the first complete byte (R187). -/
def execEmptySelection (p : Port) (s : State) : Result :=
  match (s.port p).parser with
  | .request => .next (s.setParser p .deselected)
  | .deselected => .next s
  | .preparing _ => .next s
  | .replying _ => .next s
  | .trailing => .next s
  | .discarding => .next s

/-- FRAME GIVEN UP: SEL rises in REQUEST with the code byte complete and the check byte not (R187): no reply, and
FRAME_ERROR on the port. With no byte taken it is an empty selection, which sets no flag. -/
def execFrameGivenUp (p : Port) (taken : List Byte) (s : State) : Result :=
  match (s.port p).parser with
  | .request =>
    .next (if taken.isEmpty then s.setParser p .deselected else (s.setParser p .deselected).raise p .frameError)
  | .deselected => .next s
  | .preparing _ => .next s
  | .replying _ => .next s
  | .trailing => .next s
  | .discarding => .next s

/-- REPLY READY: PREPARING goes to REPLYING with the reply prepared (R185). -/
def execReplyReady (p : Port) (s : State) : Result :=
  match (s.port p).parser with
  | .preparing reply => .next (s.setParser p (.replying reply))
  | .deselected => .next s
  | .request => .next s
  | .replying _ => .next s
  | .trailing => .next s
  | .discarding => .next s

/-- REPLY CHECK BYTE SENT: REPLYING goes to TRAILING (R182). -/
def execReplyCheckByteSent (p : Port) (s : State) : Result :=
  match (s.port p).parser with
  | .replying _ => .next (s.setParser p .trailing)
  | .deselected => .next s
  | .request => .next s
  | .preparing _ => .next s
  | .trailing => .next s
  | .discarding => .next s

/-- REPLY CUT OFF: SEL rises in PREPARING or REPLYING; the rest of the reply is lost (R188). -/
def execReplyCutOff (p : Port) (s : State) : Result :=
  match (s.port p).parser with
  | .preparing _ => .next (s.setParser p .deselected)
  | .replying _ => .next (s.setParser p .deselected)
  | .deselected => .next s
  | .request => .next s
  | .trailing => .next s
  | .discarding => .next s

/-- TRANSACTION END: SEL rises in TRAILING (R188). -/
def execTransactionEnd (p : Port) (s : State) : Result :=
  match (s.port p).parser with
  | .trailing => .next (s.setParser p .deselected)
  | .deselected => .next s
  | .request => .next s
  | .preparing _ => .next s
  | .replying _ => .next s
  | .discarding => .next s

/-- DISCARDING RELEASE: SEL rises in DISCARDING, with no flag (R187). -/
def execDiscardingRelease (p : Port) (s : State) : Result :=
  match (s.port p).parser with
  | .discarding => .next (s.setParser p .deselected)
  | .deselected => .next s
  | .request => .next s
  | .preparing _ => .next s
  | .replying _ => .next s
  | .trailing => .next s

/-- BAD REQUEST: a frame whose code names no request is answered BAD_REQUEST, or BAD_FRAME with FRAME_ERROR when it fails
the frame check (R189). -/
def execBadRequest (p : Port) (code : Byte) (f : Frame) (s : State) : Result :=
  .next (takeFrame code (fun s => (Reply.bare .badRequest, s)) p f s)

/-! ## Device reset (R181) -/

/-- The parser of a port as RESET rises: DISCARDING when its select is low (R182). -/
def parserAfterReset (selLow : Bool) : Parser := if selLow then .discarding else .deselected

/-- The eye state as RESET rises (R19). -/
def eyeAfterReset (eyeHigh : Bool) : EyeState := if eyeHigh then .blockedUntracked else .clear

/-- The state after a device reset at which the lines stand at `x` (R181). The queue of waiting commands is the
model's own and stays (DESIGN CHOICE, log entry 16). -/
def State.afterReset (s : State) (x : ResetLevels) : State :=
  { State.reset with
    tracker := { eye := eyeAfterReset x.eyeHigh }
    ports :=
      { line := { parser := parserAfterReset x.lineSelLow }
        feederA := { parser := parserAfterReset x.feederASelLow }
        feederB := { parser := parserAfterReset x.feederBSelLow } }
    pending := s.pending }

/-- DEVICE RESET (R181). -/
def execDeviceReset (levels : ResetLevels) (s : State) : Result := .next (s.afterReset levels)

end Sys2Proof.Machine
end

