-- ==== Sys2Proof/Machine/Reporting.lean ====
section
/-! DEFINITION. The requests of the reporting blocks (spec/11): FETCH OUTCOME, READ FLAGS, CLEAR FLAGS, SET MASK, READ
COUNTERS and CLEAR COUNTERS. -/

namespace Sys2Proof.Machine

open Sys2Proof

/-- FETCH OUTCOME after the frame check (R200). -/
def fetchOutcomeBody (p : Port) (l : List Byte) : State → Reply × State :=
  withoutPayload l fun s =>
    match (s.port p).outcomes with
    | [] => (Reply.bare .ok, s)
    | o :: rest => ({ status := .ok, payload := o.bytes }, s.setPort p { s.port p with outcomes := rest })

/-- FETCH OUTCOME (R200). -/
def execFetchOutcome (p : Port) (f : Frame) (s : State) : Result := .next (takeAny 0x50 fetchOutcomeBody p f s)

/-- The present conditions byte of READ FLAGS (R204). -/
def State.conditionByte (s : State) : Byte := u8 (bit s.laneDown + 2 * bit s.binCheck + 4 * bit s.binUncertain)

/-- READ FLAGS after the frame check (R204): the seen mark of every flag set in the word is set. -/
def readFlagsBody (p : Port) (l : List Byte) : State → Reply × State :=
  withoutPayload l fun s =>
    let r := s.port p
    ({ status := .ok
       payload := be16 r.flags.toNat ++ be16 r.mask.toNat ++ [s.conditionByte, u8 r.outcomes.length] },
      s.setPort p { r with seen := r.seen ||| r.flags })

/-- READ FLAGS (R204). -/
def execReadFlags (p : Port) (f : Frame) (s : State) : Result := .next (takeAny 0x51 readFlagsBody p f s)

/-- A port record with the flags named in a mask cleared where their seen marks are set; a condition flag so cleared is set
again at once while its condition, a bit of `conditions`, is true (R205). -/
def PortRec.clearSeen (r : PortRec) (m conditions : BitVec 16) : PortRec :=
  let cleared := m &&& r.seen
  { r with
    flags := (r.flags &&& ~~~cleared) ||| (cleared &&& r.flags &&& conditions), seen := r.seen &&& ~~~cleared }

/-- CLEAR FLAGS after the frame check (R205). -/
def clearFlagsBody (p : Port) (l : List Byte) (s : State) : Reply × State :=
  if l.length ≠ 2 then refuse .badArg s
  else
    let r := (s.port p).clearSeen (BitVec.ofNat 16 (nat16At l 0)) s.conditionWord
    ({ status := .ok, payload := be16 r.flags.toNat }, s.setPort p r)

/-- CLEAR FLAGS (R205). -/
def execClearFlags (p : Port) (f : Frame) (s : State) : Result := .next (takeAny 0x52 clearFlagsBody p f s)

/-- SET MASK after the frame check (R206). -/
def setMaskBody (p : Port) (l : List Byte) (s : State) : Reply × State :=
  if l.length ≠ 2 then refuse .badArg s
  else
    ({ status := .ok, payload := be16 (nat16At l 0) },
      s.setPort p { s.port p with mask := BitVec.ofNat 16 (nat16At l 0) })

/-- SET MASK (R206). -/
def execSetMask (p : Port) (f : Frame) (s : State) : Result := .next (takeAny 0x53 setMaskBody p f s)

/-- READ COUNTERS after the frame check (R209). -/
def readCountersBody (_ : Port) (l : List Byte) (s : State) : Reply × State :=
  if l.length ≠ 1 ∨ 4 < byteAt l 0 then refuse .badArg s
  else
    let g := counterGroup (byteAt l 0)
    ({ status := .ok, payload := u8 (byteAt l 0) :: u8 g.length :: g.flatMap fun c => be32 (s.counter c) }, s)

/-- READ COUNTERS (R209). -/
def execReadCounters (p : Port) (f : Frame) (s : State) : Result := .next (takeAny 0x54 readCountersBody p f s)

/-- A counter set to 0 (R210). -/
def State.zero (s : State) (c : Counter) : State := { s with counters := s.counters.set c.index 0 }

/-- Every counter of a group set to 0 when bit `g` of the mask names it (R210). -/
def State.zeroGroup (m : Nat) (s : State) (g : Nat) : State :=
  if m.testBit g then (counterGroup g).foldl State.zero s else s

/-- The eight lane error counts set to 0; states and runs stay (R12, R210). -/
def State.zeroLaneErrors (s : State) : State :=
  { s with lanes := tabulateLanes fun i => { s.lanes[i] with errors := 0 } }

/-- CLEAR COUNTERS after the frame check (R210). -/
def clearCountersBody (_ : Port) (l : List Byte) (s : State) : Reply × State :=
  if l.length ≠ 1 ∨ 63 < byteAt l 0 then refuse .badArg s
  else
    let m := byteAt l 0
    let t := [0, 1, 2, 3, 4].foldl (State.zeroGroup m) s
    ({ status := .ok, payload := [u8 m] }, if m.testBit 5 then t.zeroLaneErrors else t)

/-- CLEAR COUNTERS (R210). -/
def execClearCounters (p : Port) (f : Frame) (s : State) : Result := .next (takeAny 0x55 clearCountersBody p f s)

end Sys2Proof.Machine
end

