-- ==== Sys2Proof/Machine/Store.lean ====
section
/-! DEFINITION. The Grade Store's events and requests (spec/06): LAND PULSE, WINDOW EXPIRY, BIN RESOLVE in its three rows,
the bin requests, the lot requests, BIN READ and STACK READ. -/

namespace Sys2Proof.Machine

open Sys2Proof

/-! ## Landings and doubts (R98 to R103) -/

/-- A sheet record that joins a stack: its HELD mark set if its lot is held then, and no reservation (R98, R107). -/
def State.stacked (s : State) (x : Sheet) : Sheet := { x with held := s.isHeld x.lot, reserved := none }

/-- The landing of the oldest in-flight record `x` of bin `b`, with `rest` behind it (R98). -/
def State.land (s : State) (b : BinId) (x : InFlight) (rest : List InFlight) : State :=
  (s.setBin b { s.bin b with inFlight := rest, stack := (s.bin b).stack ++ [s.stacked x.sheet] }).bump .landed

/-- A second failure of bin `b` in CHECK (R103): the questioned and in-flight records are discarded, the bin enters LOCKOUT
with its uncertain mark, its claim is cleared and its unopened entries are cancelled. -/
def State.secondFailure (s : State) (b : BinId) : State :=
  let r := s.bin b
  let s' := (s.setBin b
    { r with
      state := .lockout, questioned := none, inFlight := [], resume := none, stray := false, uncertain := true
      claim := none }).bumpBy .questionedDiscarded (bit r.questioned.isSome + r.inFlight.length)
  (s'.cancelGate b).floatRelease b

/-- The reservations of bin `b` revoked, when a feeder holds any (R100). -/
def State.revokeReservations (s : State) (b : BinId) : State :=
  match (s.bin b).holder with
  | some f => s.revokeBin b f
  | none => s

/-- Bin `b` enters CHECK from SERVICE or DRAIN with its stray mark set, and its unopened entries are cancelled (R100). -/
def State.strayCheck (s : State) (b : BinId) : State :=
  let r := s.bin b
  ((s.setBin b { r with state := .check, resume := r.state.resume, stray := true }).cancelGate b).floatRelease b

/-- A stray landing on bin `b` in SERVICE or DRAIN (R100): the revocations, the entry into CHECK, the cancellation; then the
search round, with the feeder whose grants were revoked taken first (R153, R164). -/
def State.strayLanding (s : State) (b : BinId) : State :=
  let t := (s.revokeReservations b).strayCheck b
  match (s.bin b).holder with
  | some f => t.searchRoundBy f
  | none => t.searchRound

/-- A stray landing counted and its flag set on all three ports (R99). -/
def State.countStray (s : State) : State := (s.bump .strayLandings).raiseAll .strayLanding

/-- A pulse on LANDb (R98, R99): ignored in OFF and LOCKOUT, a landing when a record is in flight, else a stray landing,
which in CHECK is a second failure. -/
def State.landPulse (s : State) (b : BinId) : State :=
  match (s.bin b).state, (s.bin b).inFlight with
  | .off, _ => s
  | .lockout, _ => s
  | _, x :: rest => (s.land b x rest).searchRound
  | .check, [] => (s.countStray.secondFailure b).searchRound
  | .service, [] => s.countStray.strayLanding b
  | .drain, [] => s.countStray.strayLanding b

/-- LAND PULSE (R98, R99). -/
def execLandPulse (b : BinId) (s : State) : Result := .next ((s.landPulse b).takeConditions s)

/-- A missed drop of the record `x` of bin `b` (R101): it becomes the questioned record at the present stack height, and the
bin enters CHECK. -/
def State.missDrop (s : State) (b : BinId) (x : InFlight) : State :=
  let r := s.bin b
  (s.setBin b
    { r with
      inFlight := r.inFlight.filter fun y => y.sheet.store ≠ x.sheet.store
      questioned := some ⟨x.sheet, r.stack.length⟩, state := .check, resume := r.state.resume }).cancelGate b

/-- A missed drop counted and its flag set on all three ports (R101). -/
def State.countMissed (s : State) : State := (s.bump .missedDrops).raiseAll .missedDrop

/-- The time base at or past a moment that has come (DESIGN CHOICE, log entry 7). -/
def State.reachTime (s : State) (t : Nat) : State := { s with now := max s.now t }

/-- The window of the record of store number `n` in bin `b`'s in-flight list expires (R101): a missed drop in SERVICE or
DRAIN, a second failure in CHECK. When no such record is in flight, no window of it runs and nothing is taken. -/
def State.windowExpiry (s : State) (b : BinId) (n : StoreNo) : State :=
  match (s.bin b).inFlight.find? fun x => x.sheet.store = n with
  | none => s
  | some x =>
    match (s.bin b).state with
    | .service => ((s.reachTime x.expiry).missDrop b x).countMissed.searchRound
    | .drain => ((s.reachTime x.expiry).missDrop b x).countMissed.searchRound
    | .check => ((s.reachTime x.expiry).countMissed.secondFailure b).searchRound
    | .off => s
    | .lockout => s

/-- WINDOW EXPIRY (R101, R103). -/
def execWindowExpiry (b : BinId) (n : StoreNo) (s : State) : Result := .next ((s.windowExpiry b n).takeConditions s)

/-! ## BIN RESOLVE (R106, R107, R108) -/

/-- The three forms of BIN RESOLVE. -/
inductive ResolveForm where
  | landed | lost | clear
  deriving DecidableEq, Repr

/-- The form of a form byte; none above 0x02. -/
def resolveForm : Nat → Option ResolveForm
  | 0 => some .landed
  | 1 => some .lost
  | 2 => some .clear
  | _ => none

/-- The form fits the reason why the bin is in CHECK (R106, check 3). -/
def BinRec.resolvable (r : BinRec) : ResolveForm → Bool
  | .landed => r.questioned.isSome
  | .lost => r.questioned.isSome
  | .clear => r.stray

/-- RESOLVE LANDED: the questioned record inserted at its position, and the bin returned to its resume state (R107). -/
def State.resolveLanded (s : State) (b : BinId) : State :=
  let r := s.bin b
  match r.questioned with
  | none => s
  | some q =>
    (s.setBin b
      { r with
        stack := r.stack.take q.position ++ s.stacked q.sheet :: r.stack.drop q.position
        questioned := none }.resumed).bump .landed

/-- RESOLVE LOST: the questioned record discarded, and the bin returned to its resume state, with FLOAT release (R108,
R115). -/
def State.resolveLost (s : State) (b : BinId) : State :=
  ((s.setBin b { s.bin b with questioned := none }.resumed).bump .questionedDiscarded).floatRelease b

/-- RESOLVE CLEAR: the stray mark cleared, and the bin returned to its resume state (R108). -/
def State.resolveClear (s : State) (b : BinId) : State := s.setBin b { s.bin b with stray := false }.resumed

/-- An accepted BIN RESOLVE, with the search round for its change (R107, R108). -/
def State.resolve (s : State) (b : BinId) : ResolveForm → State
  | .landed => (s.resolveLanded b).searchRound
  | .lost => (s.resolveLost b).searchRound
  | .clear => (s.resolveClear b).searchRound

/-- An accepted bin request: its effect, with the conditions taken afresh, and OK with `lead` and the bin's summary
(R109) (DEDUCED, log entry 11). -/
def acceptBin (b : BinId) (lead : List Byte) (t s : State) : Reply × State :=
  ({ status := .ok, payload := lead ++ (t.takeConditions s).summary b }, t.takeConditions s)

/-- BIN RESOLVE after the frame check (R106). The form the frame carries decides. -/
def binResolveBody (_ : Port) (l : List Byte) (s : State) : Reply × State :=
  if l.length ≠ 2 then refuse .badArg s
  else
    match binOfNumber (byteAt l 0), resolveForm (byteAt l 1) with
    | some b, some x =>
      if (s.bin b).state ≠ .check then refuse .wrongState s
      else if !(s.bin b).resolvable x then refuse .badArg s
      else acceptBin b [] (s.resolve b x) s
    | _, _ => refuse .badArg s

/-- BIN RESOLVE, the row of the form LANDED (R107). -/
def execResolveLanded (p : Port) (f : Frame) (s : State) : Result := .next (takeAny 0x28 binResolveBody p f s)

/-- BIN RESOLVE, the row of the form LOST (R108). -/
def execResolveLost (p : Port) (f : Frame) (s : State) : Result := .next (takeAny 0x28 binResolveBody p f s)

/-- BIN RESOLVE, the row of the form CLEAR (R108). -/
def execResolveClear (p : Port) (f : Frame) (s : State) : Result := .next (takeAny 0x28 binResolveBody p f s)

/-! ## The bin requests (R109 to R114) -/

/-- The checks every bin request makes first (R109): its length, its bin number, and a bin that is not OFF. -/
def binRequest (n : Nat) (body : BinId → State → Reply × State) (l : List Byte) (s : State) : Reply × State :=
  if l.length ≠ n then refuse .badArg s
  else
    match binOfNumber (byteAt l 0) with
    | none => refuse .badArg s
    | some b => if (s.bin b).state = .off then refuse .wrongState s else body b s

/-- The state of bin `b` changed to `x`, and the change handed to the Arbiter (R105). -/
def State.enterState (s : State) (b : BinId) (x : BinState) : State := (s.setBin b { s.bin b with state := x }).searchRound

/-- BIN DRAIN for a bin that is not OFF (R110). -/
def drainBin (b : BinId) (s : State) : Reply × State :=
  match (s.bin b).state with
  | .service => acceptBin b [] (s.enterState b .drain) s
  | .drain => acceptBin b [] s s
  | .check => refuse .wrongState s
  | .lockout => refuse .wrongState s
  | .off => refuse .wrongState s

/-- BIN DRAIN (R110). -/
def execBinDrain (p : Port) (f : Frame) (s : State) : Result :=
  .next (takeAny 0x22 (fun _ => binRequest 1 drainBin) p f s)

/-- BIN SERVICE for a bin that is not OFF (R111). -/
def serviceBin (b : BinId) (s : State) : Reply × State :=
  match (s.bin b).state with
  | .drain => acceptBin b [] (s.enterState b .service) s
  | .service => acceptBin b [] s s
  | .lockout =>
    if (s.bin b).uncertain ∧ (s.bin b).stack ≠ [] then refuse .wrongState s
    else acceptBin b [] ((s.setBin b { s.bin b with uncertain := false }).enterState b .service) s
  | .check => refuse .wrongState s
  | .off => refuse .wrongState s

/-- BIN SERVICE (R111). -/
def execBinService (p : Port) (f : Frame) (s : State) : Result :=
  .next (takeAny 0x23 (fun _ => binRequest 1 serviceBin) p f s)

/-- The effect of an accepted BIN LOCK (R112): in CHECK the questioned record is discarded and the uncertain mark set; the
bin enters LOCKOUT with its claim and resume state gone. -/
def State.lockBin (s : State) (b : BinId) : State :=
  let r := s.bin b
  let inCheck := r.state == .check
  let s' := (s.setBin b
    { r with
      state := .lockout, resume := none, claim := none
      questioned := if inCheck then none else r.questioned
      stray := if inCheck then false else r.stray
      uncertain := r.uncertain || inCheck }).bumpBy .questionedDiscarded (bit (inCheck && r.questioned.isSome))
  ((s'.cancelGate b).floatRelease b).searchRound

/-- BIN LOCK for a bin that is not OFF (R112). -/
def lockBinBody (b : BinId) (s : State) : Reply × State :=
  if (s.bin b).state = .lockout ∨ 0 < s.inbound b ∨ 0 < (s.bin b).reservedCount then refuse .wrongState s
  else acceptBin b [] (s.lockBin b) s

/-- BIN LOCK (R112). -/
def execBinLock (p : Port) (f : Frame) (s : State) : Result :=
  .next (takeAny 0x24 (fun _ => binRequest 1 lockBinBody) p f s)

/-- The top `n` records removed from the stack of bin `b`, each counted as unloaded; an empty stack clears the uncertain
mark, and FLOAT release follows (R113, R114). -/
def State.unloadTop (s : State) (b : BinId) (n : Nat) : State :=
  let r := s.bin b
  let kept := r.stack.take (r.stack.length - n)
  ((s.setBin b { r with stack := kept, uncertain := r.uncertain && !kept.isEmpty }).bumpBy .unloaded
    (r.stack.length - kept.length)).floatRelease b

/-- BIN UNLOAD for a bin that is not OFF (R113). -/
def unloadBin (b : BinId) (s : State) : Reply × State :=
  if (s.bin b).state ≠ .lockout then refuse .wrongState s
  else acceptBin b [u8 (s.bin b).stack.length] (s.unloadTop b (s.bin b).stack.length) s

/-- BIN UNLOAD (R113). -/
def execBinUnload (p : Port) (f : Frame) (s : State) : Result :=
  .next (takeAny 0x26 (fun _ => binRequest 1 unloadBin) p f s)

/-- BIN REMOVE TOP of `n` records for a bin that is not OFF (R114). -/
def removeTop (n : Nat) (b : BinId) (s : State) : Reply × State :=
  if (s.bin b).state ≠ .lockout then refuse .wrongState s
  else if n = 0 ∨ (s.bin b).stack.length < n then refuse .badArg s
  else acceptBin b [] (s.unloadTop b n) s

/-- BIN REMOVE TOP (R114). -/
def execBinRemoveTop (p : Port) (f : Frame) (s : State) : Result :=
  .next (takeAny 0x27 (fun _ l => binRequest 2 (removeTop (byteAt l 1)) l) p f s)

/-! ## Reading the store (R120, R121) -/

/-- The bins named in a bin mask, lowest first (R120). -/
def binsOfMask (m : Nat) : List BinId := binsInOrder.filter fun b => m.testBit b.val

/-- BIN READ after the frame check (R120). -/
def binReadBody (_ : Port) (l : List Byte) (s : State) : Reply × State :=
  if l.length ≠ 2 then refuse .badArg s
  else ({ status := .ok, payload := (binsOfMask (nat16At l 0)).flatMap s.summary }, s)

/-- BIN READ (R120). -/
def execBinRead (p : Port) (f : Frame) (s : State) : Result := .next (takeAny 0x20 binReadBody p f s)

/-- The payload of STACK READ from a bin record (R121). -/
def BinRec.stackBytes (r : BinRec) (depth count : Nat) : List Byte :=
  [u8 r.stack.length, u8 depth] ++ be16 (r.questioned.elim 0 fun q => q.sheet.store.toNat) ++
    [u8 (r.questioned.elim 0 (·.position))] ++ ((r.stack.reverse.drop depth).take count).flatMap Sheet.bytes

/-- The bin record that STACK READ reads: an OFF bin reads as an empty stack (R121). -/
def BinRec.readable (r : BinRec) : BinRec :=
  if r.state = .off then { r with stack := [], questioned := none } else r

/-- STACK READ after the frame check (R121). -/
def stackReadBody (_ : Port) (l : List Byte) (s : State) : Reply × State :=
  if l.length ≠ 3 ∨ byteAt l 2 < 1 ∨ 8 < byteAt l 2 then refuse .badArg s
  else
    match binOfNumber (byteAt l 0) with
    | none => refuse .badArg s
    | some b => ({ status := .ok, payload := (s.bin b).readable.stackBytes (byteAt l 1) (byteAt l 2) }, s)

/-- STACK READ (R121). -/
def execStackRead (p : Port) (f : Frame) (s : State) : Result := .next (takeAny 0x21 stackReadBody p f s)

/-! ## Lot holds (R116 to R119) -/

/-- The number of stack records of all bins that satisfy a test. -/
def State.countStacked (s : State) (t : Sheet → Bool) : Nat := (binsInOrder.map fun b => (s.bin b).stack.countP t).sum

/-- The HELD mark of every stack record of a lot set to `held`. -/
def State.markLot (s : State) (lot : LotNo) (held : Bool) : State :=
  s.mapBins fun r => { r with stack := r.stack.map fun x => if x.lot = lot then { x with held := held } else x }

/-- The lot number a lot request carries. -/
def lotAt (l : List Byte) : LotNo := BitVec.ofNat 16 (nat16At l 0)

/-- LOT HOLD after the frame check (R117). -/
def lotHoldBody (_ : Port) (l : List Byte) (s : State) : Reply × State :=
  if l.length ≠ 2 then refuse .badArg s
  else if s.isHeld (lotAt l) then ({ status := .ok, payload := be16 0 }, s)
  else if Config.lotHoldMax ≤ s.lotHolds.length then refuse .full s
  else
    ({ status := .ok, payload := be16 (s.countStacked fun x => x.lot == lotAt l) },
      { s with lotHolds := s.lotHolds ++ [lotAt l] }.markLot (lotAt l) true)

/-- LOT HOLD (R117). -/
def execLotHold (p : Port) (f : Frame) (s : State) : Result := .next (takeAny 0x30 lotHoldBody p f s)

/-- LOT RELEASE after the frame check (R118). The count is of the records whose HELD mark is cleared; above 0 the release is
handed to the Arbiter. -/
def lotReleaseBody (_ : Port) (l : List Byte) (s : State) : Reply × State :=
  if l.length ≠ 2 ∨ !s.isHeld (lotAt l) then refuse .badArg s
  else
    let n := s.countStacked fun x => x.lot == lotAt l && x.held
    let t := { s with lotHolds := s.lotHolds.filter fun x => x ≠ lotAt l }.markLot (lotAt l) false
    ({ status := .ok, payload := be16 n }, if 0 < n then t.searchRound else t)

/-- LOT RELEASE (R118). -/
def execLotRelease (p : Port) (f : Frame) (s : State) : Result := .next (takeAny 0x31 lotReleaseBody p f s)

/-- LOT LIST after the frame check (R119). -/
def lotListBody (_ : Port) (l : List Byte) : State → Reply × State :=
  withoutPayload l fun s =>
    ({ status := .ok, payload := u8 s.lotHolds.length :: s.lotHolds.flatMap fun x => be16 x.toNat }, s)

/-- LOT LIST (R119). -/
def execLotList (p : Port) (f : Frame) (s : State) : Result := .next (takeAny 0x32 lotListBody p f s)

end Sys2Proof.Machine
end

