-- ==== Sys2Proof/Machine/Dispatch.lean ====
section
/-! DEFINITION. The meaning of each command: one arm per constructor of `Instr`, one direct call of its meaning. -/

namespace Sys2Proof.Machine

open Sys2Proof

def exec (i : Instr) (s : State) : Host.Outcome State Fault Refusal :=
  match i with
  | .sheetReport p f => Sys2Proof.Machine.execSheetReport p f s
  | .lineRestart p f => Sys2Proof.Machine.execLineRestart p f s
  | .readTracking p f => Sys2Proof.Machine.execReadTracking p f s
  | .ruleWrite p f => Sys2Proof.Machine.execRuleWrite p f s
  | .ruleRead p f => Sys2Proof.Machine.execRuleRead p f s
  | .ruleSwap p f => Sys2Proof.Machine.execRuleSwap p f s
  | .armedSwapExchange => Sys2Proof.Machine.execArmedSwapExchange s
  | .layoutWrite p f => Sys2Proof.Machine.execLayoutWrite p f s
  | .layoutRead p f => Sys2Proof.Machine.execLayoutRead p f s
  | .enterRun p f => Sys2Proof.Machine.execEnterRun p f s
  | .enterSetup p f => Sys2Proof.Machine.execEnterSetup p f s
  | .binRead p f => Sys2Proof.Machine.execBinRead p f s
  | .stackRead p f => Sys2Proof.Machine.execStackRead p f s
  | .binDrain p f => Sys2Proof.Machine.execBinDrain p f s
  | .binService p f => Sys2Proof.Machine.execBinService p f s
  | .binLock p f => Sys2Proof.Machine.execBinLock p f s
  | .binUnload p f => Sys2Proof.Machine.execBinUnload p f s
  | .binRemoveTop p f => Sys2Proof.Machine.execBinRemoveTop p f s
  | .resolveLanded p f => Sys2Proof.Machine.execResolveLanded p f s
  | .resolveLost p f => Sys2Proof.Machine.execResolveLost p f s
  | .resolveClear p f => Sys2Proof.Machine.execResolveClear p f s
  | .lotHold p f => Sys2Proof.Machine.execLotHold p f s
  | .lotRelease p f => Sys2Proof.Machine.execLotRelease p f s
  | .lotList p f => Sys2Proof.Machine.execLotList p f s
  | .recipeLoad p f => Sys2Proof.Machine.execRecipeLoad p f s
  | .recipeRead p f => Sys2Proof.Machine.execRecipeRead p f s
  | .feederSetup p f => Sys2Proof.Machine.execFeederSetup p f s
  | .plyCall p f => Sys2Proof.Machine.execPlyCall p f s
  | .patchCall p f => Sys2Proof.Machine.execPatchCall p f s
  | .pickDone p f => Sys2Proof.Machine.execPickDone p f s
  | .pickFailed p f => Sys2Proof.Machine.execPickFailed p f s
  | .feederStop p f => Sys2Proof.Machine.execFeederStop p f s
  | .callStatus p f => Sys2Proof.Machine.execCallStatus p f s
  | .fetchOutcome p f => Sys2Proof.Machine.execFetchOutcome p f s
  | .readFlags p f => Sys2Proof.Machine.execReadFlags p f s
  | .clearFlags p f => Sys2Proof.Machine.execClearFlags p f s
  | .setMask p f => Sys2Proof.Machine.execSetMask p f s
  | .readCounters p f => Sys2Proof.Machine.execReadCounters p f s
  | .clearCounters p f => Sys2Proof.Machine.execClearCounters p f s
  | .readLanes p f => Sys2Proof.Machine.execReadLanes p f s
  | .badRequest p code f => Sys2Proof.Machine.execBadRequest p code f s
  | .frameGivenUp p taken => Sys2Proof.Machine.execFrameGivenUp p taken s
  | .replyReady p => Sys2Proof.Machine.execReplyReady p s
  | .replyCutOff p => Sys2Proof.Machine.execReplyCutOff p s
  | .deviceReset levels => Sys2Proof.Machine.execDeviceReset levels s
  | .encPulse d => Sys2Proof.Machine.execEncPulse d s
  | .reversalFault => Sys2Proof.Machine.execReversalFault s
  | .eyeLeadingEdge => Sys2Proof.Machine.execEyeLeadingEdge s
  | .eyeTrailingEdge => Sys2Proof.Machine.execEyeTrailingEdge s
  | .longObject => Sys2Proof.Machine.execLongObject s
  | .decisionExpiry n => Sys2Proof.Machine.execDecisionExpiry n s
  | .endOfLine n => Sys2Proof.Machine.execEndOfLine n s
  | .pairingDecision => Sys2Proof.Machine.execPairingDecision s
  | .gradingCompletion => Sys2Proof.Machine.execGradingCompletion s
  | .gateOpen b => Sys2Proof.Machine.execGateOpen b s
  | .gateClose b => Sys2Proof.Machine.execGateClose b s
  | .landPulse b => Sys2Proof.Machine.execLandPulse b s
  | .windowExpiry b n => Sys2Proof.Machine.execWindowExpiry b n s
  | .waitExpiry f => Sys2Proof.Machine.execWaitExpiry f s
  | .selFall p => Sys2Proof.Machine.execSelFall p s
  | .emptySelection p => Sys2Proof.Machine.execEmptySelection p s
  | .replyCheckByteSent p => Sys2Proof.Machine.execReplyCheckByteSent p s
  | .transactionEnd p => Sys2Proof.Machine.execTransactionEnd p s
  | .discardingRelease p => Sys2Proof.Machine.execDiscardingRelease p s

end Sys2Proof.Machine
end

