-- ==== Sys2Proof/Machine/Idle.lean ====
section
/-! DEFINITION. What the block does while no command waits: it takes an event of its own that is due, or lets a millisecond
of its time base pass. -/

namespace Sys2Proof.Machine

open Sys2Proof

/-- The event of a record that is due: its decision expiry or its end of line. -/
def State.recordEvent (s : State) (r : TrackRec) : Option Instr :=
  if r.expiryDue s.tracker.pos then some (.decisionExpiry r.store)
  else if r.endDue s.tracker.pos then some (.endOfLine r.store)
  else none

/-- The event of a gate that is due: its opening or its close. -/
def State.gateEvent (s : State) (b : BinId) : Option Instr :=
  if s.openDue b then some (.gateOpen b) else if s.closeDue b then some (.gateClose b) else none

/-- The first window of a bin whose expiry the time base has reached, in a bin that takes window expiries. -/
def State.windowEvent (s : State) (b : BinId) : Option Instr :=
  if (s.bin b).state.working ∨ (s.bin b).state = .check then
    ((s.bin b).inFlight.find? fun x => x.expiry ≤ s.now).map fun x => .windowExpiry b x.sheet.store
  else none

/-- A feeder's wait whose expiry the time base has reached. -/
def State.waitEvent (s : State) (f : Feeder) : Option Instr :=
  match (s.feeder f).waiting, (s.feeder f).front with
  | some w, some _ => if w.expiry ≤ s.now then some (.waitExpiry f) else none
  | _, _ => none

/-- A port whose reply is being prepared. -/
def State.replyEvent (s : State) (p : Port) : Option Instr :=
  match (s.port p).parser with
  | .preparing _ => some (.replyReady p)
  | .deselected => none
  | .request => none
  | .replying _ => none
  | .trailing => none
  | .discarding => none

/-- The events of the block's own that are due, in the order in which an idle step prefers them: the events of the
present position, the pairing decision, the grading completion, the readiness of a reply, and the
expiries the time base has reached (DESIGN CHOICE, log entry 2). -/
def State.dueEvents (s : State) : List Instr :=
  (if s.longDue then [.longObject] else []) ++ s.tracker.queue.filterMap s.recordEvent ++
    binsInOrder.filterMap s.gateEvent ++ (if s.pairingDue then [.pairingDecision] else []) ++
    (if s.engine.isSome then [.gradingCompletion] else []) ++
    [Port.line, .feeder .A, .feeder .B].filterMap s.replyEvent ++ binsInOrder.filterMap s.windowEvent ++
    [Feeder.A, .B].filterMap s.waitEvent

/-- An idle step: the first due event of the block's own is taken; when none is due a millisecond of the time base
passes (DESIGN CHOICE, log entry 2). -/
def idle (s : State) : Result :=
  match s.dueEvents.head? with
  | some e => exec e s
  | none => .next { s with now := s.now + 1 }

end Sys2Proof.Machine
end

