-- ==== Sys2Proof/Safety.lean ====
section
/-! DEFINITION. What a sound state is, in the terms the statements use: the relations between the fields of State that the
spec says always hold, and what a search round of the Draw Arbiter may change. -/

namespace Sys2Proof.Machine

open Sys2Proof

/-! ## Requests and replies -/

/-- The frame `f` ends on port `p` under the code byte `code` while the parser is in REQUEST, and passes the frame check
(R184, R189). -/
def State.asks (s : State) (p : Port) (code : Byte) (f : Frame) : Prop :=
  (s.port p).parser = .request ∧ f.length.toNat ≤ 120 ∧ f.check = crc8 (code :: f.length :: f.payload)

/-- The reply `r` prepared on port `p` (R185). -/
def State.answer (s : State) (p : Port) (r : Reply) : State := s.setParser p (.preparing r.bytes)

/-! ## Rule banks, modes and layouts -/

/-- The active bank satisfies bank validation, and so does a standby bank whose exchange is armed (R68, R62). -/
def State.BanksValid (s : State) : Prop :=
  (s.rules.bank s.rules.active).fault = none ∧
    (s.rules.armed = true → (s.rules.bank s.rules.standby).fault = none)

/-- A swap is armed only while a grading is in progress: with the engine IDLE none can be armed (R69, R179). -/
def State.SwapWaits (s : State) : Prop := s.rules.armed = true → s.engine ≠ none

/-- In SETUP the tracking queue and the report queue are empty and the engine is IDLE (R175). -/
def State.SetupQuiet (s : State) : Prop :=
  s.mode = .setup → s.tracker.queue = [] ∧ s.reports = [] ∧ s.engine = none

/-- Every field of a layout lies in its range (R171). -/
structure Layout.InRange (y : Layout) : Prop where
  laneCount : 1 ≤ y.laneCount ∧ y.laneCount ≤ 8
  divide : y.divide = 1 ∨ y.divide = 2 ∨ y.divide = 4 ∨ y.divide = 8
  decision : 3200 ≤ y.decision ∧ y.decision ≤ 27000
  lead : y.lead ≤ 400
  tail : y.tail ≤ 400
  lineEnd : 4000 ≤ y.lineEnd ∧ y.lineEnd ≤ 29000
  tolerance : y.tolerance ≤ 100
  window : 50 ≤ y.window ∧ y.window ≤ 2000
  quality : y.qLow ≤ 255 ∧ y.qHigh ≤ 255
  nLost : 1 ≤ y.nLost ∧ y.nLost ≤ 15
  nBack : 1 ≤ y.nBack ∧ y.nBack ≤ 63
  gate : ∀ b : BinId, 3500 ≤ y.bins[b].gate ∧ y.bins[b].gate ≤ 28000
  capacity : ∀ b : BinId, 10 ≤ y.bins[b].capacity ∧ y.bins[b].capacity ≤ 200

/-- Both copies of the layout hold values in range, and in RUN they are equal (R171). -/
def State.LayoutsSound (s : State) : Prop :=
  s.pendingLayout.InRange ∧ s.activeLayout.InRange ∧ (s.mode = .run → s.pendingLayout = s.activeLayout)

/-! ## Lanes, tracker and queues -/

/-- The bad run is non-zero in SUSPECT alone and the good run in RECOVERING alone, each short of its threshold, and the
error count has not passed its saturation value (R6, R8). -/
def LaneRec.Sound (y : Layout) (r : LaneRec) : Prop :=
  (r.state = .suspect ∧ 1 ≤ r.badRun ∧ r.badRun < y.nLost ∨ r.state ≠ .suspect ∧ r.badRun = 0) ∧
    (r.state = .recovering ∧ 1 ≤ r.goodRun ∧ r.goodRun < y.nBack ∨ r.state ≠ .recovering ∧ r.goodRun = 0) ∧
      r.errors ≤ Config.laneErrorMax

/-- Every lane record is sound under the active layout (R6). -/
def State.LanesSound (s : State) : Prop := ∀ i : LaneId, s.lanes[i].Sound s.activeLayout

/-- The divide residue lies below the divide and the backlash has not passed 200 (R16, R17). -/
def State.TravelSound (s : State) : Prop :=
  s.tracker.residue < s.activeLayout.divide ∧ s.tracker.backlash ≤ Config.backlashMax

/-- The tracking queue, the report queue and the lot hold list hold at most their greatest numbers, and no lot is held
twice (R4, R21, R116). -/
def State.QueuesBounded (s : State) : Prop :=
  s.tracker.queue.length ≤ Config.trackingQueueDepth ∧ s.reports.length ≤ Config.reportQueueDepth ∧
    s.lotHolds.length ≤ Config.lotHoldMax ∧ s.lotHolds.Nodup

/-- The store numbers of the sheets in the part, one for each tracking record and each sheet record of a bin (R20). -/
def State.storeNumbers (s : State) : List StoreNo :=
  s.tracked ++ binsInOrder.flatMap fun b => (s.bin b).carried

/-- No two sheets in the part carry the same store number, and none carries 0 (R20). -/
def State.StoreNumbersUnique (s : State) : Prop :=
  s.storeNumbers.Nodup ∧ ∀ n ∈ s.carried, n ≠ 0

/-- No statistics counter has passed its saturation value (R208). -/
def State.CountersBounded (s : State) : Prop := ∀ c : Counter, s.counter c ≤ Config.counterMax

/-- No event of the present position is due: no long-object check, expiry, end of line, gate opening or gate close (R17). -/
def State.Settled (s : State) : Prop :=
  s.longDue = false ∧ (∀ r ∈ s.tracker.queue, r.expiryDue s.tracker.pos = false ∧ r.endDue s.tracker.pos = false) ∧
    ∀ b, s.openDue b = false ∧ s.closeDue b = false

/-! ## Ports (R199, R201) -/

/-- A port's queue holds at most eight records, a seen mark is set only while its flag is set, bit 15 of the word is 0, and
the flags of bits 2 to 4 are clear on the Line Port. -/
def PortRec.Sound (p : Port) (r : PortRec) : Prop :=
  r.outcomes.length ≤ Config.outcomeQueueDepth ∧ r.seen &&& ~~~r.flags = 0 ∧ r.flags.getLsbD 15 = false ∧
    (p = .line → r.flags.getLsbD 2 = false ∧ r.flags.getLsbD 3 = false ∧ r.flags.getLsbD 4 = false)

/-- Every port is sound. -/
def State.PortsSound (s : State) : Prop := ∀ p : Port, (s.port p).Sound p

/-! ## Gates (R72, R85) -/

/-- A follow entry stands behind a lead entry and is unopened, and the output is on exactly while the lead entry is
opened. -/
def Gate.Sound (g : Gate) : Prop :=
  (g.lead = none → g.follow = none) ∧ (∀ e, g.follow = some e → e.opened = false) ∧
    g.output = g.lead.any (·.opened)

/-- Every gate is sound. -/
def State.GatesSound (s : State) : Prop := ∀ b : BinId, (s.gate b).Sound

/-! ## Bins (R92, R93, R95, R115) -/

/-- A bin is in CHECK exactly while it has a resume state, and exactly while it has a questioned record or a stray mark; it
never has both; in LOCKOUT nothing is in flight; and an OFF bin is as device reset leaves it but for its capacity and gate
distance (R92, R93, R122). -/
def BinRec.Sound (r : BinRec) : Prop :=
  (r.resume.isSome ↔ r.state = .check) ∧ (r.questioned.isSome ∨ r.stray = true ↔ r.state = .check) ∧
    ¬(r.questioned.isSome ∧ r.stray = true) ∧ (r.state = .lockout → r.inFlight = []) ∧
      (r.state = .off → r = { capacity := r.capacity, gate := r.gate })

/-- Every bin is sound. -/
def State.BinsSound (s : State) : Prop := ∀ b : BinId, (s.bin b).Sound

/-- A bin has at most three inbound sheets, and its stack, what is inbound to it and its questioned record together do not
pass 200 sheets, the greatest capacity (R93, R95). -/
def State.BinsBounded (s : State) : Prop :=
  ∀ b : BinId, (s.bin b).capacity ≤ 200 ∧ s.inbound b ≤ 3 ∧
    (s.bin b).stack.length + s.inbound b + bit (s.bin b).questioned.isSome ≤ 200

/-- A FLOAT bin whose stack is empty, which has no inbound sheet and no questioned record, has no class (R115). -/
def State.FloatsReleased (s : State) : Prop :=
  ∀ b : BinId, (s.bin b).mode = .float → (s.bin b).stack = [] → s.inbound b = 0 → (s.bin b).questioned = none →
    (s.bin b).current = none

/-! ## Feeders (R123, R139, R141) -/

/-- A recipe queue holds at most two recipes of 1 to 15 plies, and the recipe position is present exactly while the queue
holds a recipe, when it names a ply of the head (R123, R124). -/
def FeederRec.RecipesSound (r : FeederRec) : Prop :=
  r.recipes.length ≤ Config.recipeQueueDepth ∧
    (∀ x ∈ r.recipes, 1 ≤ x.plies.length ∧ x.plies.length ≤ Config.plyMax) ∧
      (match r.recipes.head?, r.position with
       | none, none => True
       | some head, some p => 1 ≤ p ∧ p ≤ head.plies.length
       | none, some _ => False
       | some _, none => False)

/-- The group size is 1 to 4, the unserved plies and the call grants are call plies and at most four together, and what the
patch slot holds is a patch; a ply waits only while there is a front ply to wait (R123, R139). -/
def FeederRec.CallSound (r : FeederRec) : Prop :=
  1 ≤ r.groupSize ∧ r.groupSize ≤ 4 ∧ r.unserved.length + r.grants.length ≤ 4 ∧
    (∀ e ∈ r.unserved, e.origin.isPatch = false) ∧ (∀ g ∈ r.grants, g.entry.origin.isPatch = false) ∧
      (match r.patch with
       | .empty => True
       | .unserved e => e.origin.isPatch = true
       | .granted g => g.entry.origin.isPatch = true) ∧
      (r.waiting.isSome → r.front.isSome)

/-- Both feeders' recipes and calls are sound. -/
def State.FeedersSound (s : State) : Prop :=
  ∀ f : Feeder, (s.feeder f).RecipesSound ∧ (s.feeder f).CallSound

/-- A feeder whose name a bin's claim field carries has a waiting ply with that bin as its target; so it claims at most one
bin, and none while no ply of it waits (R139). -/
def State.ClaimsSound (s : State) : Prop :=
  ∀ (b : BinId) (f : Feeder), (s.bin b).claim = some f → ∃ w, (s.feeder f).waiting = some w ∧ w.target = some b

/-! ## Blocked candidates (R146, R148) -/

/-- Bin `b` is a blocked candidate for a ply of feeder `g`, with `x` its record taken as top: the highest unreserved one, which
matches the ply, in a bin in SERVICE or DRAIN held back by an inbound sheet, or by a claim or a reservation of the other
feeder (R148). -/
def State.BlockedBin (s : State) (g : Feeder) (spec : PlySpec) (b : BinId) (x : Sheet) : Prop :=
  ((s.bin b).state = .service ∨ (s.bin b).state = .drain) ∧
    (0 < s.inbound b ∨ (s.bin b).claim = some g.other ∨ ∃ y ∈ (s.bin b).stack, y.reserved = some g.other) ∧
    (∃ below above, (s.bin b).stack = below ++ x :: above ∧ (∀ y ∈ above, y.reserved ≠ none) ∧ x.reserved = none) ∧
    x.cls ∈ spec.classes ∧ (spec.width = none ∨ spec.width = some x.width) ∧
    spec.species.getLsbD x.species = true ∧ x.held = false

/-- The target is the best blocked candidate, by the place of the class, the smaller stack and the lower number, or none when
there is no blocked candidate (R146, R148). -/
def State.BestBlocked (s : State) (g : Feeder) (spec : PlySpec) (target : Option BinId) : Prop :=
  (target = none → ∀ b x, ¬s.BlockedBin g spec b x) ∧
    ∀ b, target = some b → ∃ x, s.BlockedBin g spec b x ∧
      ∀ b' x', b' ≠ b → s.BlockedBin g spec b' x' →
        spec.classes.idxOf x.cls < spec.classes.idxOf x'.cls ∨
        spec.classes.idxOf x.cls = spec.classes.idxOf x'.cls ∧
          ((s.bin b).stack.length < (s.bin b').stack.length ∨
            (s.bin b).stack.length = (s.bin b').stack.length ∧ b < b')

/-! ## What a search round may change (R147, R149, R153) -/

/-- A sheet record without its reservation mark. -/
def Sheet.unmarked (x : Sheet) : Sheet := { x with reserved := none }

/-- Of a bin record a round changes the claim and the reservation marks alone. -/
def BinRec.RoundFrame (r r' : BinRec) : Prop :=
  r' = { r with claim := r'.claim, stack := r'.stack } ∧ r'.stack.map Sheet.unmarked = r.stack.map Sheet.unmarked

/-- Of a port record a round changes the outcome queue, at its tail, and OUTCOME_LOST alone. -/
def PortRec.RoundFrame (r r' : PortRec) : Prop :=
  r'.parser = r.parser ∧ r'.mask = r.mask ∧ (∃ new, r'.outcomes = r.outcomes ++ new) ∧
    (∀ i, i ≠ Flag.outcomeLost.index → r'.flags.getLsbD i = r.flags.getLsbD i ∧ r'.seen.getLsbD i = r.seen.getLsbD i)

/-- Of a feeder's record a round leaves the mode, the group size and the wait timeout (R123). -/
def FeederRec.RoundFrame (r r' : FeederRec) : Prop :=
  r'.mode = r.mode ∧ r'.groupSize = r.groupSize ∧ r'.timeout = r.timeout

/-- A search round leaves everything else in the part as it was: it makes grants, begins and ends waits, and sets and
clears claims. -/
structure State.RoundFrame (s t : State) : Prop where
  mode : t.mode = s.mode
  pendingLayout : t.pendingLayout = s.pendingLayout
  activeLayout : t.activeLayout = s.activeLayout
  tracker : t.tracker = s.tracker
  reports : t.reports = s.reports
  lanes : t.lanes = s.lanes
  engine : t.engine = s.engine
  rules : t.rules = s.rules
  gates : t.gates = s.gates
  lotHolds : t.lotHolds = s.lotHolds
  counters : t.counters = s.counters
  now : t.now = s.now
  pending : t.pending = s.pending
  line : t.ports.line = s.ports.line
  bins : ∀ b, (s.bin b).RoundFrame (t.bin b)
  ports : ∀ f, (s.port (.feeder f)).RoundFrame (t.port (.feeder f))
  feeders : ∀ f, (s.feeder f).RoundFrame (t.feeder f)

end Sys2Proof.Machine
end

