-- ==== Sys2Proof/WellFormed.lean ====
section
/-! DEFINITION. Which terms of `Instr` are commands the part can meet: a frame carries as many payload bytes as
its length byte says, BAD_REQUEST carries a code of no request, each BIN RESOLVE row carries its own form, and a
frame given up is one that has begun and not ended. Every event term is a command. -/

namespace Sys2Proof

/-- The payload has as many bytes as the length byte gives (R184). -/
def Frame.wf (f : Frame) : Bool := f.payload.length == f.length.toNat

/-- At least the code byte is complete and the check byte is not (R187): with only the code byte the length is
not yet known, and from the length byte on the frame has `length + 3` bytes. -/
def frameBegun : List Byte → Bool
  | [] => false
  | [_] => true
  | _ :: len :: rest => decide (rest.length < len.toNat + 1)

/-- Whether a command is one the part can meet. -/
def Instr.wf (i : Instr) : Bool :=
  match i with
  | .badRequest _ code f => f.wf && !isRequestCode code
  | .resolveLanded p f => f.wf && resolveCommand p f == .resolveLanded p f
  | .resolveLost p f => f.wf && resolveCommand p f == .resolveLost p f
  | .resolveClear p f => f.wf && resolveCommand p f == .resolveClear p f
  | .frameGivenUp _ taken => frameBegun taken
  | i => i.request?.all fun r => r.2.2.wf

end Sys2Proof
end

