-- ==== Sys2Proof/Certificates/Slice0/Obligations.lean ====
section
/-! DEFINITION. The statements for the provers. Each says what a command or the block does, after the rules of spec/ that its
entry in OBLIGATIONS.json cites. -/

open Sys2Proof Sys2Proof.Machine

/-! ## The block and its ports -/

/-- A step takes the command at the front of the queue with the queue's rest (the model's queue of commands). -/
def Obligations.StepTakesFrontCommand : Prop :=
  ∀ (c : Instr) (rest : List Instr) (s : State), s.pending = c :: rest → step s = exec c { s with pending := rest }

/-- Every command has a next state and leaves the queue of waiting commands alone; every step has a next state. The spec
names nothing that stops the part; that no command and no step stops at all is the model's choice (notes/assumptions/21.md),
and so are the queue that a command leaves alone (notes/assumptions/1.md) and the step that an empty queue takes
(notes/assumptions/2.md). -/
def Obligations.EveryCommandCompletes : Prop :=
  ∀ (c : Instr) (s : State), (∃ t, exec c s = .next t ∧ t.pending = s.pending) ∧ ∃ t, step s = .next t

/-- The parser's way through a transaction (R182, R188): a fall of SEL begins it, the reply becomes ready, its check byte
ends it, and a rise of SEL in each state returns to DESELECTED. Nothing but the port's parser changes. MISO is not driven in
DESELECTED, carries the reply's bytes in their order in REPLYING, and 0x00 on every byte in every other state (R182). -/
def Obligations.SelectionCycle : Prop :=
  ∀ (p : Port) (s : State) (reply : List Byte),
    ((s.port p).parser = .deselected →
      exec (.selFall p) s = .next (s.setParser p .request) ∧ ∀ k, (s.port p).parser.miso k = none) ∧
    ((s.port p).parser = .request →
      exec (.emptySelection p) s = .next (s.setParser p .deselected) ∧ ∀ k, (s.port p).parser.miso k = some 0) ∧
    ((s.port p).parser = .preparing reply → (∀ k, (s.port p).parser.miso k = some 0) ∧
      exec (.replyReady p) s = .next (s.setParser p (.replying reply)) ∧
      exec (.replyCutOff p) s = .next (s.setParser p .deselected)) ∧
    ((s.port p).parser = .replying reply → (∀ k, k < reply.length → (s.port p).parser.miso k = reply[k]?) ∧
      exec (.replyCheckByteSent p) s = .next (s.setParser p .trailing) ∧
      exec (.replyCutOff p) s = .next (s.setParser p .deselected)) ∧
    ((s.port p).parser = .trailing →
      exec (.transactionEnd p) s = .next (s.setParser p .deselected) ∧ ∀ k, (s.port p).parser.miso k = some 0) ∧
    ((s.port p).parser = .discarding →
      exec (.discardingRelease p) s = .next (s.setParser p .deselected) ∧ ∀ k, (s.port p).parser.miso k = some 0)

/-- A select released early (R187): after the first byte the frame is given up with FRAME_ERROR on that port and no reply;
before it, and in DISCARDING, no flag is set; a device reset gives the frame up too, clears every flag, and leaves DISCARDING
where SEL is low. -/
def Obligations.SelectReleasedEarly : Prop :=
  ∀ (p : Port) (s : State),
    ((s.port p).parser = .request →
      (∀ taken : List Byte, taken ≠ [] →
        exec (.frameGivenUp p taken) s = .next ((s.setParser p .deselected).raise p .frameError)) ∧
      exec (.emptySelection p) s = .next (s.setParser p .deselected)) ∧
    ((s.port p).parser = .discarding → exec (.discardingRelease p) s = .next (s.setParser p .deselected)) ∧
    ∀ x : ResetLevels, ∃ t, exec (.deviceReset x) s = .next t ∧ (t.port p).flags = 0 ∧
      (t.port p).parser =
        if (match p with
          | .line => x.lineSelLow
          | .feeder .A => x.feederASelLow
          | .feeder .B => x.feederBSelLow) then .discarding else .deselected

/-- A request frame is taken in REQUEST alone (R183), and one that fails the frame check, by its check byte or by a length
above 120, is answered BAD_FRAME with FRAME_ERROR on its port and no other effect (R189). -/
def Obligations.FrameCheckComesFirst : Prop :=
  ∀ (c : Instr) (p : Port) (code : Byte) (f : Frame) (s : State), c.request? = some (p, code, f) →
    ((s.port p).parser ≠ .request → exec c s = .next s) ∧
    ((s.port p).parser = .request → 120 < f.length.toNat ∨ f.check ≠ crc8 (code :: f.length :: f.payload) →
      exec c s = .next ((s.raise p .frameError).setParser p (.preparing [0x5A, 0x05, 0x00, 0x41])))

/-- Requests no port or another port accepts (R189, R191): an unlisted code is answered BAD_REQUEST; a feeder request on the
Line Port is answered WRONG_PORT, and so is a SHEET REPORT on a feeder port, which is also counted as refused. -/
def Obligations.UnacceptedRequests : Prop :=
  ∀ (p : Port) (code : Byte) (f : Frame) (s : State), s.asks p code f →
    exec (.badRequest p code f) s = .next (s.setParser p (.preparing [0x5A, 0x06, 0x00, 0x7E])) ∧
    (∀ c : Instr, c.wf = true → c.request? = some (p, code, f) → p = .line → 0x40 ≤ code.toNat → code.toNat ≤ 0x48 →
      exec c s = .next (s.setParser .line (.preparing [0x5A, 0x04, 0x00, 0x54]))) ∧
    (∀ g : Feeder, p = .feeder g → code = 0x01 →
      exec (.sheetReport p f) s =
        .next ((s.bump .reportsRefused).setParser p (.preparing [0x5A, 0x04, 0x00, 0x54])))

/-- The bytes of a request command's frame decode to the command, whatever its operands (R184, R191). -/
def Obligations.FrameDecodesToItsCommand : Prop :=
  ∀ (c : Instr) (p : Port) (code : Byte) (f : Frame), c.wf = true → c.request? = some (p, code, f) →
    decodeFrame p (frameBytes code f) = some c

/-- Two runs of bytes that differ in one byte have different check bytes (R186). -/
def Obligations.CheckByteSeesOneChangedByte : Prop :=
  ∀ (before after : List Byte) (a b : Byte), a ≠ b →
    crc8 (before ++ a :: after) ≠ crc8 (before ++ b :: after)

/-- What device reset leaves (R181 and the reset values of each chapter). The eye and the parsers follow the levels of EYE
and of the selects; the queue of waiting commands is the model's own and stays (the model's choice, notes/assumptions/1.md). -/
def Obligations.DeviceResetValues : Prop :=
  ∀ (x : ResetLevels) (s : State), ∃ t, exec (.deviceReset x) s = .next t ∧
    t.mode = .setup ∧ t.pendingLayout = {} ∧ t.activeLayout = {} ∧
    t.tracker.pos = 0 ∧ t.tracker.residue = 0 ∧ t.tracker.backlash = 0 ∧ t.tracker.storeCounter = 0 ∧
    t.tracker.queue = [] ∧ t.tracker.eye = (if x.eyeHigh then .blockedUntracked else .clear) ∧
    t.reports = [] ∧ t.engine = none ∧ t.lotHolds = [] ∧ t.firstTurn = .A ∧
    t.rules.active = .zero ∧ t.rules.armed = false ∧ t.rules.serial = 0 ∧ t.rules.bank0 = {} ∧ t.rules.bank1 = {} ∧
    (∀ i : LaneId, t.lanes[i] = ⟨.good, 0, 0, 0⟩) ∧
    (∀ b : BinId, t.gate b = ⟨none, none, false⟩ ∧
      t.bin b = ⟨.off, .float, none, 150, 5000, [], [], none, false, none, none, false⟩) ∧
    (∀ f : Feeder, t.feeder f = ⟨[], none, .runOut, 1, 10, [], [], .empty, none⟩) ∧
    (∀ c : Counter, t.counter c = 0) ∧
    (∀ p : Port, (t.port p).outcomes = [] ∧ (t.port p).flags = 0 ∧ (t.port p).seen = 0 ∧ (t.port p).mask = 0xFFFF) ∧
    (t.port .line).parser = (if x.lineSelLow then .discarding else .deselected) ∧
    (t.port (.feeder .A)).parser = (if x.feederASelLow then .discarding else .deselected) ∧
    (t.port (.feeder .B)).parser = (if x.feederBSelLow then .discarding else .deselected) ∧
    t.pending = s.pending

/-! ## Outcomes, flags, masks and counters -/

/-- FETCH OUTCOME gives the oldest record and takes it from the queue, or gives an empty payload (R200); READ FLAGS gives
the word, the mask, the conditions and the number of records, and marks the set flags seen (R204); SET MASK replaces the
mask (R206). A payload that is not empty, or not two bytes for SET MASK, is refused BAD_ARG. The conditions are those of R11
and R104, and one that has risen sets its flag, unseen, on every port (R203). A record sent to a port joins the tail of a queue with room; one sent to a queue of eight is dropped, the eight
are kept, and OUTCOME_LOST is set, unseen, on that port alone (R199). ATTN is active exactly while the queue holds a record
or a set flag is enabled (R207).
The seven kinds of outcome record, field by field at their offsets (R197, R198), with the numbers of a ply's origin; 0 in
both stands for the patch. -/
def Obligations.PortRequests : Prop :=
  (∀ (p : Port) (f : Frame) (s : State),
      (s.asks p 0x50 f →
        (f.payload ≠ [] → exec (.fetchOutcome p f) s = .next (s.answer p ⟨.badArg, []⟩)) ∧
        (f.payload = [] →
          ((s.port p).outcomes = [] → exec (.fetchOutcome p f) s = .next (s.answer p ⟨.ok, []⟩)) ∧
          ∀ o rest, (s.port p).outcomes = o :: rest →
            exec (.fetchOutcome p f) s =
              .next ((s.setPort p { s.port p with outcomes := rest }).answer p ⟨.ok, o.bytes⟩))) ∧
      (s.asks p 0x51 f →
        (f.payload ≠ [] → exec (.readFlags p f) s = .next (s.answer p ⟨.badArg, []⟩)) ∧
        (f.payload = [] →
          exec (.readFlags p f) s =
            .next ((s.setPort p { s.port p with seen := (s.port p).seen ||| (s.port p).flags }).answer p
              ⟨.ok, be16 (s.port p).flags.toNat ++ be16 (s.port p).mask.toNat ++
                [u8 (bit s.laneDown + 2 * bit s.binCheck + 4 * bit s.binUncertain), u8 (s.port p).outcomes.length]⟩))) ∧
      (s.asks p 0x53 f →
        (f.payload.length ≠ 2 → exec (.setMask p f) s = .next (s.answer p ⟨.badArg, []⟩)) ∧
        ∀ m : BitVec 16, f.payload = be16 m.toNat →
          exec (.setMask p f) s =
            .next ((s.setPort p { s.port p with mask := m }).answer p ⟨.ok, be16 m.toNat⟩)) ∧
      (∀ o : OutcomeRec,
        ((s.port p).outcomes.length < 8 →
          s.send p o = s.setPort p { s.port p with outcomes := (s.port p).outcomes ++ [o] }) ∧
        (8 ≤ (s.port p).outcomes.length →
          ∃ flags seen : BitVec 16, s.send p o = s.setPort p { s.port p with flags := flags, seen := seen } ∧
            ∀ i : Nat, flags.getLsbD i = (i == 1 || (s.port p).flags.getLsbD i) ∧
              seen.getLsbD i = (i != 1 && (s.port p).seen.getLsbD i))) ∧
      ((s.port p).attn = true ↔
        (s.port p).outcomes ≠ [] ∨ ∃ i : Nat, (s.port p).flags.getLsbD i = true ∧ (s.port p).mask.getLsbD i = true) ∧
      (s.laneDown = true ↔
        ∃ i : LaneId, i.val < s.activeLayout.laneCount ∧ (s.lanes[i].state = .lost ∨ s.lanes[i].state = .recovering)) ∧
      (s.binCheck = true ↔ ∃ b : BinId, (s.bin b).state = .check) ∧
      (s.binUncertain = true ↔ ∃ b : BinId, (s.bin b).uncertain = true) ∧
      ∀ before : State, ∃ flags seen : BitVec 16,
        (s.takeConditions before).port p = { s.port p with flags := flags, seen := seen } ∧
        s.takeConditions before = { s with ports := (s.takeConditions before).ports } ∧
        ∀ (i : Nat) (risen : Bool),
          risen = (i == 12 && s.laneDown && !before.laneDown || i == 13 && s.binCheck && !before.binCheck ||
            i == 14 && s.binUncertain && !before.binUncertain) →
          flags.getLsbD i = (risen || (s.port p).flags.getLsbD i) ∧ seen.getLsbD i = (!risen && (s.port p).seen.getLsbD i)) ∧
  ((∀ (lineId : LineId) (n : StoreNo) (d : Disposition) (x : GradeResult) (l : List Byte),
      l = (OutcomeRec.sheetDecided lineId n d x).bytes →
      l.length = 21 ∧ byteAt l 0 = 0x01 ∧ nat32At l 1 = lineId.toNat ∧ nat16At l 5 = n.toNat ∧ byteAt l 7 = d.code ∧
      byteAt l 8 = (match x.cls with | none => 0xFF | some c => c.code) ∧
      byteAt l 9 = (match x.width with | none => 0xFF | some w => w.code) ∧ nat16At l 10 = x.density % 65536 ∧
      nat16At l 12 = x.moistMax % 65536 ∧ nat16At l 14 = x.moistMean % 65536 ∧
      byteAt l 16 = x.degraded.toNat + 2 * x.capped.toNat ∧ byteAt l 17 = x.reason.code ∧
      byteAt l 18 = (match x.bank with | .zero => 0 | .one => 1) ∧ nat16At l 19 = x.serial.toNat) ∧
    (∀ (n : StoreNo) (lead : Pos) (eye : Nat) (l : List Byte), l = (OutcomeRec.sheetUnreported n lead eye).bytes →
      l.length = 7 ∧ byteAt l 0 = 0x02 ∧ nat16At l 1 = n.toNat ∧ nat16At l 3 = lead.toNat ∧
      nat16At l 5 = eye % 65536) ∧
    (∀ (lineId : LineId) (n : Nat) (l : List Byte), l = (OutcomeRec.orphan lineId n).bytes →
      l.length = 7 ∧ byteAt l 0 = 0x03 ∧ nat32At l 1 = lineId.toNat ∧ nat16At l 5 = n % 65536) ∧
    (∀ (n : StoreNo) (b : BinId) (c : GradeClass) (o : Origin) (again : Bool) (l : List Byte),
      l = (OutcomeRec.grant n b c o again).bytes →
      l.length = 9 ∧ byteAt l 0 = 0x10 ∧ nat16At l 1 = n.toNat ∧ byteAt l 3 = b.val + 1 ∧ byteAt l 4 = c.code ∧
      nat16At l 5 = o.recipe.toNat ∧ byteAt l 7 = o.ply % 256 ∧ byteAt l 8 = o.isPatch.toNat + 2 * again.toNat) ∧
    (∀ (n : StoreNo) (b : BinId) (o : Origin) (l : List Byte), l = (OutcomeRec.grantRevoked n b o).bytes →
      l.length = 8 ∧ byteAt l 0 = 0x11 ∧ nat16At l 1 = n.toNat ∧ byteAt l 3 = b.val + 1 ∧
      nat16At l 4 = o.recipe.toNat ∧ byteAt l 6 = o.ply % 256 ∧ byteAt l 7 = o.isPatch.toNat) ∧
    (∀ (e : CallEnding) (patch again : Bool) (count : Nat) (n : RecipeNo) (ply : Nat) (l : List Byte),
      l = (OutcomeRec.callEnd e patch again count n ply).bytes →
      l.length = 7 ∧ byteAt l 0 = 0x12 ∧ byteAt l 1 = (match e with | .complete => 0 | .short => 1 | .stopped => 2) ∧
      byteAt l 2 = patch.toNat + 2 * again.toNat ∧ byteAt l 3 = count % 256 ∧ nat16At l 4 = n.toNat ∧
      byteAt l 6 = ply % 256) ∧
    (∀ (n : RecipeNo) (x : Followed) (left : Nat) (head : RecipeNo) (l : List Byte),
      l = (OutcomeRec.recipeConsumed n x left head).bytes →
      l.length = 7 ∧ byteAt l 0 = 0x13 ∧ nat16At l 1 = n.toNat ∧
      byteAt l 3 = (match x with | .next => 0 | .repeated => 1 | .empty => 2) ∧ byteAt l 4 = left % 256 ∧
      nat16At l 5 = head.toNat) ∧
    (∀ (n : RecipeNo) (k : Nat),
      (Origin.call n k).recipe = n ∧ (Origin.call n k).ply = k ∧ (Origin.call n k).isPatch = false) ∧
    Origin.patch.recipe = 0 ∧ Origin.patch.ply = 0 ∧ Origin.patch.isPatch = true)

/-- CLEAR FLAGS (R205), bit by bit, on a port whose seen marks stand on set flags: a flag named in the mask and seen is
cleared with its seen mark, and set again, unseen, while its condition is true; every other flag and mark stays. A payload
that is not two bytes is refused BAD_ARG. -/
def Obligations.ClearFlagsRemovesSeenFlags : Prop :=
  ∀ (p : Port) (f : Frame) (s : State), s.asks p 0x52 f →
    (f.payload.length ≠ 2 → exec (.clearFlags p f) s = .next (s.answer p ⟨.badArg, []⟩)) ∧
    ∀ m : BitVec 16, f.payload = be16 m.toNat → (s.port p).Sound p →
    ∃ r : PortRec, exec (.clearFlags p f) s = .next ((s.setPort p r).answer p ⟨.ok, be16 r.flags.toNat⟩) ∧
      r.parser = (s.port p).parser ∧ r.outcomes = (s.port p).outcomes ∧ r.mask = (s.port p).mask ∧
      ∀ i : Nat,
        (m.getLsbD i = true ∧ (s.port p).seen.getLsbD i = true →
          r.seen.getLsbD i = false ∧
          r.flags.getLsbD i = (i == 12 && s.laneDown || i == 13 && s.binCheck || i == 14 && s.binUncertain)) ∧
        (¬(m.getLsbD i = true ∧ (s.port p).seen.getLsbD i = true) →
          r.seen.getLsbD i = (s.port p).seen.getLsbD i ∧ r.flags.getLsbD i = (s.port p).flags.getLsbD i)

/-- CLEAR COUNTERS sets every counter of each group named in the mask to 0, bit 5 the lane error counts, and leaves every
other counter and everything else as it was (R12, R210). A payload that is not one byte, or a mask with bit 6 or 7 set, is
refused BAD_ARG. -/
def Obligations.ClearCountersClearsNamedGroups : Prop :=
  ∀ (p : Port) (f : Frame) (s : State), s.asks p 0x55 f →
    (f.payload.length ≠ 1 ∨ (∃ m : Byte, f.payload = [m] ∧ 63 < m.toNat) →
      exec (.clearCounters p f) s = .next (s.answer p ⟨.badArg, []⟩)) ∧
    ∀ m : Byte, f.payload = [m] → m.toNat ≤ 63 →
    ∃ t : State, exec (.clearCounters p f) s = .next (t.answer p ⟨.ok, [m]⟩) ∧
      t = { s with counters := t.counters, lanes := t.lanes } ∧
      (∀ g < 5, ∀ c ∈ counterGroup g, t.counter c = if m.getLsbD g then 0 else s.counter c) ∧
      ∀ i : LaneId, t.lanes[i] = if m.getLsbD 5 then { s.lanes[i] with errors := 0 } else s.lanes[i]

/-- A request that is refused leaves every piece of state as it was (R190), but for the counter of a refused SHEET REPORT and
the flag of a RECIPE LOAD refused FULL; what BAD_FRAME does stands in FrameCheckComesFirst. -/
def Obligations.RefusedRequestsChangeNothing : Prop :=
  ∀ (c : Instr) (p : Port) (code : Byte) (f : Frame) (s : State), c.request? = some (p, code, f) → s.asks p code f →
    ∃ (t : State) (r : Reply), exec c s = .next (t.answer p r) ∧
      (r.status ≠ .ok → r.status ≠ .clamped →
        t = s ∨ code = 0x01 ∧ t = s.bump .reportsRefused ∨
          code = 0x40 ∧ r.status = .full ∧ t = s.raise p .recipeOverflow)

/-- No reply payload exceeds 120 bytes (R185). -/
def Obligations.RepliesFitTheLengthByte : Prop :=
  ∀ (c : Instr) (p : Port) (code : Byte) (f : Frame) (s : State), c.request? = some (p, code, f) → s.asks p code f →
    s.QueuesBounded → s.FeedersSound →
    ∃ (t : State) (r : Reply), exec c s = .next (t.answer p r) ∧ r.payload.length ≤ 120

/-! ## Reading -/

/-- The reads give what stands and change nothing: READ TRACKING, READ LANES, READ COUNTERS, RULE READ and LAYOUT READ (R33, R14,
R209, R64, R174), then BIN READ, STACK READ, LOT LIST, RECIPE READ and CALL STATUS (R120, R121, R119, R137, R169). Another
payload, by its length or by a field out of range, is refused BAD_ARG, and an OFF bin reads as an empty stack without a
questioned record. The layouts of what they give are stated field by field at their offsets: the sheet record (R194), the
tracking record (R196), the bin summary (R195), the payload of CALL STATUS (R169), a recipe (R125), and the groups of a rule
bank and of a line layout (R60, R171), with the codes of spec/10. -/
def Obligations.ReadRequests : Prop :=
  (∀ (p : Port) (f : Frame) (s : State),
      (s.asks p 0x03 f →
        (∀ i : Byte, f.payload = [i] → i.toNat ≤ 23 →
          exec (.readTracking p f) s = .next (s.answer p
            ⟨.ok, u8 s.tracker.queue.length :: i :: ((s.tracker.queue.drop i.toNat).take 7).flatMap TrackRec.bytes⟩)) ∧
        (f.payload.length ≠ 1 ∨ (∃ i : Byte, f.payload = [i] ∧ 23 < i.toNat) →
          exec (.readTracking p f) s = .next (s.answer p ⟨.badArg, []⟩))) ∧
      (s.asks p 0x56 f →
        exec (.readLanes p f) s = .next (s.answer p
          (if f.payload = [] then
            ⟨.ok, u8 s.activeLayout.laneCount :: lanesInOrder.flatMap fun i =>
              [u8 s.lanes[i].state.code, u8 s.lanes[i].run, errorByte s.lanes[i].errors]⟩
          else ⟨.badArg, []⟩))) ∧
      (s.asks p 0x54 f →
        (∀ g : Byte, f.payload = [g] → g.toNat ≤ 4 →
          exec (.readCounters p f) s = .next (s.answer p
            ⟨.ok, g :: u8 (counterGroup g.toNat).length :: (counterGroup g.toNat).flatMap fun c => be32 (s.counter c)⟩)) ∧
        (f.payload.length ≠ 1 ∨ (∃ g : Byte, f.payload = [g] ∧ 4 < g.toNat) →
          exec (.readCounters p f) s = .next (s.answer p ⟨.badArg, []⟩))) ∧
      (s.asks p 0x11 f →
        (∀ n g : Byte, f.payload = [n, g] → n.toNat ≤ 1 → g.toNat ≤ 5 →
          exec (.ruleRead p f) s = .next (s.answer p
            ⟨.ok, [u8 s.rules.active.code, u8 (bit s.rules.armed)] ++ be16 s.rules.serial.toNat ++ [n, g] ++
              (if n = 0 then s.rules.bank0 else s.rules.bank1).groupBytes g.toNat⟩)) ∧
        (f.payload.length ≠ 2 ∨ (∃ n g : Byte, f.payload = [n, g] ∧ (1 < n.toNat ∨ 5 < g.toNat)) →
          exec (.ruleRead p f) s = .next (s.answer p ⟨.badArg, []⟩))) ∧
      (s.asks p 0x19 f →
        (∀ k g : Byte, f.payload = [k, g] → k.toNat ≤ 1 → g.toNat ≤ 16 →
          exec (.layoutRead p f) s = .next (s.answer p
            ⟨.ok, [u8 s.mode.code, k, g] ++ (if k = 0 then s.pendingLayout else s.activeLayout).groupBytes g.toNat⟩)) ∧
        (f.payload.length ≠ 2 ∨ (∃ k g : Byte, f.payload = [k, g] ∧ (1 < k.toNat ∨ 16 < g.toNat)) →
          exec (.layoutRead p f) s = .next (s.answer p ⟨.badArg, []⟩)))) ∧
  (∀ (p : Port) (f : Frame) (s : State),
      (s.asks p 0x20 f →
        (∀ m : BitVec 16, f.payload = be16 m.toNat →
          exec (.binRead p f) s = .next (s.answer p
            ⟨.ok, (binsInOrder.filter fun b => m.getLsbD b.val).flatMap s.summary⟩)) ∧
        (f.payload.length ≠ 2 → exec (.binRead p f) s = .next (s.answer p ⟨.badArg, []⟩))) ∧
      (s.asks p 0x21 f →
        (∀ (b : BinId) (depth count : Byte), f.payload = [u8 (binNumber b), depth, count] → 1 ≤ count.toNat →
          count.toNat ≤ 8 →
          exec (.stackRead p f) s = .next (s.answer p
            (if (s.bin b).state = .off then ⟨.ok, [0, depth, 0, 0, 0]⟩
            else
              ⟨.ok, [u8 (s.bin b).stack.length, depth] ++
                be16 ((s.bin b).questioned.elim 0 fun q => q.sheet.store.toNat) ++
                [u8 ((s.bin b).questioned.elim 0 fun q => q.position)] ++
                (((s.bin b).stack.reverse.drop depth.toNat).take count.toNat).flatMap Sheet.bytes⟩))) ∧
        (f.payload.length ≠ 3 ∨ (∃ n depth count : Byte, f.payload = [n, depth, count] ∧
            (n = 0 ∨ 16 < n.toNat ∨ count = 0 ∨ 8 < count.toNat)) →
          exec (.stackRead p f) s = .next (s.answer p ⟨.badArg, []⟩))) ∧
      (s.asks p 0x32 f →
        exec (.lotList p f) s = .next (s.answer p
          (if f.payload = [] then ⟨.ok, u8 s.lotHolds.length :: s.lotHolds.flatMap fun x => be16 x.toNat⟩
          else ⟨.badArg, []⟩))) ∧
      (∀ g : Feeder, p = .feeder g → s.asks p 0x41 f →
        (∀ i : Byte, f.payload = [i] → i.toNat ≤ 1 →
          exec (.recipeRead p f) s = .next (s.answer p
            (if (s.feeder g).recipes = [] then ⟨.ok, []⟩
            else
              ⟨.ok, [u8 (s.feeder g).recipes.length, u8 ((s.feeder g).position.getD 0), i] ++
                ((s.feeder g).recipes[i.toNat]?.elim [] Recipe.bytes)⟩))) ∧
        (f.payload.length ≠ 1 ∨ (∃ i : Byte, f.payload = [i] ∧ 1 < i.toNat) →
          exec (.recipeRead p f) s = .next (s.answer p ⟨.badArg, []⟩))) ∧
      ∀ g : Feeder, p = .feeder g → s.asks p 0x48 f →
        exec (.callStatus p f) s = .next (s.answer p
          (if f.payload = [] then ⟨.ok, s.callStatus g⟩ else ⟨.badArg, []⟩))) ∧
  ((∀ n : Nat, be16 n = [BitVec.ofNat 8 (n / 256), BitVec.ofNat 8 n] ∧
      be32 n = [BitVec.ofNat 8 (n / 16777216), BitVec.ofNat 8 (n / 65536), BitVec.ofNat 8 (n / 256), BitVec.ofNat 8 n]) ∧
    [GradeClass.A, .B, .C, .D, .K, .N, .W, .R].map GradeClass.code = [0, 1, 2, 3, 4, 5, 6, 7] ∧
    [WidthClass.full, .half, .strip].map WidthClass.code = [0, 1, 2] ∧
    [Reason.none, .knot, .opening, .split, .stain, .density, .wet, .strip, .noScan].map Reason.code =
      [0, 1, 2, 3, 4, 5, 6, 7, 8] ∧
    Disposition.pending.code = 0x00 ∧ (∀ b : BinId, (Disposition.bin b).code = 0x10 + b.val) ∧
    [RunoutCause.late, .noRoom, .heldLot, .unreported, .long, .noScan, .cancelled].map (fun c => (Disposition.runout c).code) =
      [0x20, 0x21, 0x22, 0x23, 0x24, 0x25, 0x26] ∧
    [none, some Feeder.A, some .B].map feederCode = [0, 1, 2] ∧
    (∀ (x : Sheet) (l : List Byte), l = x.bytes →
      l.length = 14 ∧ nat16At l 0 = x.store.toNat ∧ nat32At l 2 = x.lineId.toNat ∧ nat16At l 6 = x.lot.toNat ∧
      nat16At l 8 = x.length % 65536 ∧ nat16At l 10 = x.density % 65536 ∧
      byteAt l 12 = (x.cls.code * 16 + x.species) % 256 ∧
      byteAt l 13 = x.width.code + 4 * x.degraded.toNat + 8 * x.capped.toNat + 16 * x.held.toNat +
        32 * feederCode x.reserved) ∧
    (∀ (x : TrackRec) (l : List Byte), l = x.bytes →
      l.length = 16 ∧ nat16At l 0 = x.store.toNat ∧ nat16At l 2 = x.lead.toNat ∧
      (x.trail = none → nat16At l 4 = 0 ∧ nat16At l 6 = 0) ∧
      (∀ e, x.trail = some e → nat16At l 4 = e.pos.toNat ∧ nat16At l 6 = e.eyeLength % 65536) ∧
      (x.paired = none → nat32At l 8 = 0) ∧ (∀ i, x.paired = some i → nat32At l 8 = i.lineId.toNat) ∧
      byteAt l 12 = (match x.report with | .none => 0 | .grading => 1 | .graded => 2 | .skipped => 3) +
        4 * x.long.toNat + 8 * x.trail.isSome.toNat + 16 * x.paired.isSome.toNat + 32 * x.result.isSome.toNat ∧
      byteAt l 13 = x.disp.code ∧ (x.result = none → byteAt l 14 = 0 ∧ byteAt l 15 = 0) ∧
      ∀ y, x.result = some y →
        byteAt l 14 = (match y.cls with | none => 0xFF | some c => c.code) ∧ byteAt l 15 = y.reason.code) ∧
    (∀ (s : State) (b : BinId) (r : BinRec) (l : List Byte), r = s.bin b → l = s.summary b →
      (r.state = .off → l = [0, 0, 0, 0, 0, 0, 0]) ∧
      (r.state ≠ .off →
        l.length = 7 ∧ byteAt l 0 = b.val + 1 ∧
        byteAt l 1 = (match r.state with | .off => 0 | .service => 1 | .drain => 2 | .check => 3 | .lockout => 4) +
          8 * (match r.mode with | .fixed => 0 | .float => 1) + 16 * (match r.current with | none => 0xF | some c => c.code) ∧
        byteAt l 2 = r.capacity % 256 ∧ byteAt l 3 = r.stack.length % 256 ∧
        byteAt l 4 =
          (s.inbound b + 4 * r.inFlight.length + 16 * feederCode r.claim + 64 * feederCode r.holder) % 256 ∧
        byteAt l 5 = (r.stack.countP (·.reserved.isSome) + 8 * r.questioned.isSome.toNat + 16 * r.stray.toNat +
          32 * (match r.resume with | none => 0 | some .service => 1 | some .drain => 2) + 128 * r.uncertain.toNat) % 256 ∧
        byteAt l 6 = r.stack.countP (·.held) % 256) ∧
      s.inbound b = (s.gate b).lead.isSome.toNat + (s.gate b).follow.isSome.toNat + r.inFlight.length ∧
      (r.holder = none → ∀ x ∈ r.stack, x.reserved = none) ∧
      ∀ g, r.holder = some g → ∃ x ∈ r.stack, x.reserved = some g) ∧
    (∀ (s : State) (g : Feeder) (r : FeederRec) (l : List Byte), r = s.feeder g → l = s.callStatus g →
      l.length = 16 + 5 * r.allGrants.length ∧
      r.allGrants = r.grants ++ (match r.patch with | .granted e => [e] | .empty => [] | .unserved _ => []) ∧
      byteAt l 0 = (if r.unserved ≠ [] then 1 else if r.grants ≠ [] then 2 else 0) ∧
      byteAt l 1 = (match r.patch with | .empty => 0 | .unserved _ => 1 | .granted _ => 2) ∧
      nat16At l 2 = (match r.recipes with | [] => 0 | head :: _ => head.number.toNat) ∧
      byteAt l 4 = r.position.getD 0 % 256 ∧ byteAt l 5 = (match s.firstTurn with | .A => 0 | .B => 1) ∧
      (r.waiting = none →
        byteAt l 6 = 0 ∧ nat16At l 7 = 0 ∧ byteAt l 9 = 0 ∧ byteAt l 10 = 0 ∧ nat16At l 12 = 0) ∧
      (∀ w e, r.waiting = some w → r.front = some e →
        byteAt l 6 = (if e.origin.isPatch then 2 else 1) ∧ nat16At l 7 = e.origin.recipe.toNat ∧
        byteAt l 9 = (e.origin.ply + 0x80 * e.reServed.toNat) % 256 ∧
        byteAt l 10 = (match w.target with | none => 0 | some b => b.val + 1) ∧
        nat16At l 12 = (w.expiry - s.now) % 65536) ∧
      ((∀ b, (s.bin b).claim ≠ some g) → byteAt l 11 = 0) ∧
      (∀ b, (s.bin b).claim = some g → (∀ b', (s.bin b').claim = some g → b' = b) → byteAt l 11 = b.val + 1) ∧
      byteAt l 14 = r.unserved.length % 256 ∧ byteAt l 15 = r.allGrants.length % 256 ∧
      ∀ k e, r.allGrants[k]? = some e →
        byteAt l (16 + 5 * k) = e.entry.origin.ply % 256 ∧ byteAt l (17 + 5 * k) = e.bin.val + 1 ∧
        nat16At l (18 + 5 * k) = e.store.toNat ∧
        byteAt l (20 + 5 * k) = e.entry.origin.isPatch.toNat + 2 * e.entry.reServed.toNat +
          4 * ((s.bin e.bin).stack.any fun x => x.store == e.store && x.held).toNat) ∧
    (∀ (x : Recipe) (l : List Byte), l = x.bytes →
      l.length = 3 + 6 * x.plies.length ∧ nat16At l 0 = x.number.toNat ∧ byteAt l 2 = x.plies.length % 256 ∧
      ∀ k sp, x.plies[k]? = some sp →
        (∀ j < 3, byteAt l (3 + 6 * k + j) = (match sp.classes[j]? with | none => 0xFF | some c => c.code)) ∧
        byteAt l (6 + 6 * k) = (match sp.width with | none => 3 | some w => w.code) ∧
        nat16At l (7 + 6 * k) = sp.species.toNat) ∧
    (∀ (k : Bank) (l : List Byte),
      (l = k.groupBytes 0 → l.length = 6 ∧ ∀ i : Fin 6, byteAt l i.val = k.weight[i] % 256) ∧
      (∀ i : Fin 4, l = k.groupBytes (i.val + 1) →
        l.length = 8 ∧ nat16At l 0 = k.grade[i].knotMax % 65536 ∧ byteAt l 2 = k.grade[i].openMax % 256 ∧
        nat16At l 3 = k.grade[i].splitMax % 65536 ∧ byteAt l 5 = k.grade[i].stainOk.toNat ∧
        nat16At l 6 = k.grade[i].densityMax % 65536) ∧
      (l = k.groupBytes 5 →
        l.length = 11 ∧ nat16At l 0 = k.coreDensityMax % 65536 ∧ byteAt l 2 = k.coreOpenMax % 256 ∧
        nat16At l 3 = k.wetLaneLimit % 65536 ∧ nat16At l 5 = k.wetMeanLimit % 65536 ∧ nat16At l 7 = k.wFull % 65536 ∧
        nat16At l 9 = k.wHalf % 65536)) ∧
    ∀ (y : Layout) (l : List Byte),
      (l = y.groupBytes 0 →
        l = y.lineBytes ∧ l.length = 17 ∧ byteAt l 0 = y.laneCount % 256 ∧ byteAt l 1 = y.divide % 256 ∧
        nat16At l 2 = y.decision % 65536 ∧ nat16At l 4 = y.lead % 65536 ∧ nat16At l 6 = y.tail % 65536 ∧
        nat16At l 8 = y.lineEnd % 65536 ∧ byteAt l 10 = y.tolerance % 256 ∧ nat16At l 11 = y.window % 65536 ∧
        byteAt l 13 = y.qLow % 256 ∧ byteAt l 14 = y.qHigh % 256 ∧ byteAt l 15 = y.nLost % 256 ∧
        byteAt l 16 = y.nBack % 256) ∧
      ∀ b : BinId, l = y.groupBytes (b.val + 1) →
        l = y.bins[b].bytes ∧ l.length = 5 ∧ byteAt l 0 = y.bins[b].fitted.toNat ∧
        nat16At l 1 = y.bins[b].gate % 65536 ∧ byteAt l 3 = y.bins[b].capacity % 256 ∧
        byteAt l 4 = (match y.bins[b].fixedClass with | none => 0xFF | some c => c.code))

/-! ## Sheet reports and scan lanes -/

/-- SHEET REPORT on the Line Port (R2, R3): a report the checks accept joins the report queue at its clamped values, is counted,
and is answered with the number of waiting reports, CLAMPED when a value was changed. One refused is counted as refused with
nothing else changed: NOT_RUNNING in SETUP, BAD_ARG for a payload the checks refuse, FULL with four waiting, in that order.
The payloads refused are exactly those of check 3 of R2, and an accepted one is read by its layout (R193). That the moisture
kept for a lane outside the mask stands as 0 is the model's choice (notes/assumptions/20.md; R1 keeps none). -/
def Obligations.SheetReport : Prop :=
  (∀ (f : Frame) (s : State) (r : Report), s.asks .line 0x01 f → s.mode = .run → s.reports.length < 4 →
      reportOf s.activeLayout.laneCount f.payload = some r →
      ∃ r' : Report,
        exec (.sheetReport .line f) s =
          .next (({ s with reports := s.reports ++ [r'] }.bump .reportsAccepted).answer .line
            ⟨if r' = r then .ok else .clamped, [u8 (s.reports.length + 1)]⟩) ∧
        r'.length = max 300 (min 3000 r.length) ∧ r'.width = max 100 (min 1400 r.width) ∧
        (∀ i : LaneId, r'.moisture[i] = if r.mask.getLsbD i.val then min 400 r.moisture[i] else 0) ∧
        r'.defects = r.defects.map (fun d => { d with size := max 1 (min 1023 d.size) }) ∧
        r' = { r with length := r'.length, width := r'.width, moisture := r'.moisture, defects := r'.defects }) ∧
  (∀ (f : Frame) (s : State), s.asks .line 0x01 f →
      (s.mode = .setup →
        exec (.sheetReport .line f) s = .next ((s.bump .reportsRefused).answer .line ⟨.notRunning, []⟩)) ∧
      (s.mode = .run →
        (reportOf s.activeLayout.laneCount f.payload = none →
          exec (.sheetReport .line f) s = .next ((s.bump .reportsRefused).answer .line ⟨.badArg, []⟩)) ∧
        (∀ r, reportOf s.activeLayout.laneCount f.payload = some r → 4 ≤ s.reports.length →
          exec (.sheetReport .line f) s = .next ((s.bump .reportsRefused).answer .line ⟨.full, []⟩)))) ∧
  (∀ (fitted : Nat) (l : List Byte) (mask : BitVec 8), mask = l.getD 11 0 →
      (reportOf fitted l = none ↔
        l.length < 37 ∨ l.length ≠ 37 + 3 * byteAt l 36 ∨ 24 < byteAt l 36 ∨ 15 < byteAt l 6 ∨ mask = 0 ∨
          (∃ i : LaneId, fitted ≤ i.val ∧ mask.getLsbD i.val = true) ∨
          (∃ k < byteAt l 36, mask.getLsbD (byteAt l (37 + 3 * k) % 16) = false) ∨
          ∃ k < byteAt l 36, 5 < byteAt l (37 + 3 * k) / 16) ∧
      ∀ r, reportOf fitted l = some r →
        r.lineId.toNat = nat32At l 0 ∧ r.lot.toNat = nat16At l 4 ∧ r.species = byteAt l 6 ∧ r.length = nat16At l 7 ∧
        r.width = nat16At l 9 ∧ r.mask = mask ∧
        (∀ i : LaneId, mask.getLsbD i.val = true →
          r.quality[i] = byteAt l (12 + i.val) ∧ r.moisture[i] = nat16At l (20 + 2 * i.val)) ∧
        r.defects.length = byteAt l 36 ∧
        ∀ (k : Nat) (d : Defect), r.defects[k]? = some d →
          d.kind.code.val = byteAt l (37 + 3 * k) / 16 ∧ d.lane.val = byteAt l (37 + 3 * k) % 16 ∧
            d.size = nat16At l (38 + 3 * k))

/-- The lane update by the table of R8, with both thresholds, on a lane record that is sound. A low reading adds one to the
error count up to 16,777,215, no other reading changes it, and the update from a report takes each lane of its mask once and
leaves every lane outside the mask, and everything but the lanes, as it was (R7). -/
def Obligations.LaneTransitionTable : Prop :=
  (∀ (y : Layout) (r : LaneRec) (q : Nat), 1 ≤ y.nLost → 1 ≤ y.nBack → y.qLow < y.qHigh → r.Sound y →
    (r.state = .good →
      (q < y.qLow → (r.updated y q).state = (if y.nLost = 1 then .lost else .suspect) ∧
        (r.updated y q).badRun = (if y.nLost = 1 then 0 else 1) ∧ (r.updated y q).goodRun = 0) ∧
      (y.qLow ≤ q → (r.updated y q).state = .good ∧ (r.updated y q).badRun = 0 ∧ (r.updated y q).goodRun = 0)) ∧
    (r.state = .suspect →
      (q < y.qLow → (r.updated y q).state = (if r.badRun + 1 = y.nLost then .lost else .suspect) ∧
        (r.updated y q).badRun = (if r.badRun + 1 = y.nLost then 0 else r.badRun + 1) ∧ (r.updated y q).goodRun = 0) ∧
      (y.qLow ≤ q → (r.updated y q).state = .good ∧ (r.updated y q).badRun = 0 ∧ (r.updated y q).goodRun = 0)) ∧
    (r.state = .lost →
      (q < y.qHigh → (r.updated y q).state = .lost ∧ (r.updated y q).badRun = 0 ∧ (r.updated y q).goodRun = 0) ∧
      (y.qHigh ≤ q → (r.updated y q).state = (if y.nBack = 1 then .good else .recovering) ∧
        (r.updated y q).badRun = 0 ∧ (r.updated y q).goodRun = if y.nBack = 1 then 0 else 1)) ∧
    (r.state = .recovering →
      (q < y.qHigh → (r.updated y q).state = .lost ∧ (r.updated y q).badRun = 0 ∧ (r.updated y q).goodRun = 0) ∧
      (y.qHigh ≤ q → (r.updated y q).state = (if r.goodRun + 1 = y.nBack then .good else .recovering) ∧
        (r.updated y q).badRun = 0 ∧
          (r.updated y q).goodRun = if r.goodRun + 1 = y.nBack then 0 else r.goodRun + 1)) ∧
    (q < y.qLow → (r.updated y q).errors = if r.errors = 16777215 then 16777215 else r.errors + 1) ∧
    (y.qLow ≤ q → (r.updated y q).errors = r.errors)) ∧
  ∀ (s : State) (r : Report), s.updateLanes r = { s with lanes := (s.updateLanes r).lanes } ∧
    ∀ i : LaneId, (s.updateLanes r).lanes[i] =
      if r.mask.getLsbD i.val then s.lanes[i].updated s.activeLayout r.quality[i] else s.lanes[i]

/-- The compressed error count of READ LANES (R13): the smallest exponent, the mantissa below it, and 0xFF from 491,520 on;
the byte never reads back as more than the count. -/
def Obligations.ErrorCountByte : Prop :=
  ∀ c : Nat, c ≤ 16777215 →
    (c < 491520 → ∃ e m : Nat, errorByte c = u8 (e * 16 + m) ∧ e ≤ 15 ∧ m = c / 2 ^ e ∧ m ≤ 15 ∧
      (∀ k < e, 15 < c / 2 ^ k) ∧ m * 2 ^ e ≤ c ∧ (c ≤ 15 → e = 0 ∧ m = c)) ∧
    (491520 ≤ c → errorByte c = 0xFF ∧ 15 * 2 ^ 15 = 491520)

/-! ## Conveyor tracking and pairing -/

/-- An encoder pulse (R16, R17). Whatever is due, the count P, the residue and the backlash follow the pulse; where nothing
is due, nothing else changes but the length counted at the eye, on a forward count alone. That a pulse first takes the events
still due at the present count is the model's reading (notes/assumptions/4.md).
The reversal fault (R18, R90): the reverse pulse that would bring the backlash to 201 empties the tracking queue and
every gate, sets the backlash to 0 and REVERSAL on every port, and, with nothing else due, counts the records lost. Reports,
grading, lanes, banks and holds stay, with nothing else due the in-flight lists and stacks too, and a tracked object at the
eye becomes untracked. A FLOAT bin left with nothing has no class (R115), and a search round follows when a bin's inbound count
has reached 0 (R105), one round whatever their number, by the model's reading (notes/assumptions/9.md). That ENC PULSE and REVERSAL FAULT are one event, with the residue at divide - 1 after it, is the
model's reading (notes/assumptions/5.md). -/
def Obligations.EncoderPulsesAndReversalFault : Prop :=
  (∀ s : State,
      (∃ t, exec (.encPulse .forward) s = .next t ∧
        t.tracker.residue = (if s.tracker.residue + 1 < s.activeLayout.divide then s.tracker.residue + 1 else 0) ∧
        t.tracker.backlash = (if s.tracker.residue + 1 < s.activeLayout.divide then s.tracker.backlash
          else s.tracker.backlash - 1) ∧
        t.tracker.pos = (if s.tracker.residue + 1 < s.activeLayout.divide ∨ 0 < s.tracker.backlash then s.tracker.pos
          else s.tracker.pos + 1) ∧
        (s.Settled →
          t = { s with tracker := { s.tracker with
            residue := t.tracker.residue, backlash := t.tracker.backlash, pos := t.tracker.pos
            eye := if s.tracker.residue + 1 < s.activeLayout.divide ∨ 0 < s.tracker.backlash then s.tracker.eye
              else match s.tracker.eye with
                | .blockedTracked n => .blockedTracked (min (n + 1) 65535)
                | .clear => .clear
                | .blockedUntracked => .blockedUntracked } })) ∧
      (0 < s.tracker.residue ∨ s.tracker.backlash < 200 →
        ∃ t, exec (.encPulse .reverse) s = .next t ∧
          t.tracker.residue = (if s.tracker.residue = 0 then s.activeLayout.divide - 1 else s.tracker.residue - 1) ∧
          t.tracker.backlash = (if s.tracker.residue = 0 then s.tracker.backlash + 1 else s.tracker.backlash) ∧
          t.tracker.pos = s.tracker.pos ∧
          (s.Settled →
            t = { s with tracker := { s.tracker with residue := t.tracker.residue, backlash := t.tracker.backlash } }))) ∧
  (∀ s : State, s.tracker.residue = 0 → s.tracker.backlash = 200 →
      ∃ t, exec .reversalFault s = .next t ∧ exec (.encPulse .reverse) s = .next t ∧
        t.tracker = { s.tracker with
          residue := s.activeLayout.divide - 1, backlash := 0, queue := []
          eye := match s.tracker.eye with
            | .clear => .clear
            | .blockedTracked _ => .blockedUntracked
            | .blockedUntracked => .blockedUntracked } ∧
        (∀ b : BinId, t.gate b = ⟨none, none, false⟩) ∧
        (∀ p : Port, (t.port p).flags.getLsbD 8 = true ∧ (t.port p).seen.getLsbD 8 = false) ∧
        t.reports = s.reports ∧ t.engine = s.engine ∧ t.lanes = s.lanes ∧ t.rules = s.rules ∧ t.lotHolds = s.lotHolds ∧
        t.mode = s.mode ∧ t.pendingLayout = s.pendingLayout ∧ t.activeLayout = s.activeLayout ∧
        (s.Settled →
          (∀ b : BinId, (t.bin b).inFlight = (s.bin b).inFlight ∧ (t.bin b).state = (s.bin b).state ∧
            (t.bin b).questioned = (s.bin b).questioned ∧
            (t.bin b).stack.map Sheet.unmarked = (s.bin b).stack.map Sheet.unmarked) ∧
          t.counters = (s.bumpBy .reversalLosses s.tracker.queue.length).counters ∧
          ∃ u : State, u = { s with
              tracker := t.tracker, gates := t.gates, counters := t.counters, bins := u.bins
              ports := (s.raiseAll .reversal).ports } ∧
            (∀ b : BinId, u.bin b = { s.bin b with
              current := if (s.bin b).mode = .float ∧ (s.bin b).stack = [] ∧ (s.bin b).inFlight = [] ∧
                  (s.bin b).questioned = none then none else (s.bin b).current }) ∧
            ((∃ b, 0 < s.inbound b ∧ (s.bin b).inFlight = []) → t = u.searchRound) ∧
            (¬(∃ b, 0 < s.inbound b ∧ (s.bin b).inFlight = []) → t = u)))

/-- A leading edge (R19): an untracked object in SETUP, the same with TRACK_OVERFLOW when 24 records are held, else a record
at the tail with the next store number, the position P and the expiry at P + Q (R34).
A trailing edge (R19, R22): an untracked object clears the eye; a tracked one of less than 300 mm is deleted as a
fragment; another has its trailing position, eye length and end-of-line position set. -/
def Obligations.EyeEdges : Prop :=
  (∀ s : State, s.tracker.eye = .clear →
      (s.mode = .setup →
        exec .eyeLeadingEdge s =
          .next ({ s with tracker := { s.tracker with eye := .blockedUntracked } }.bump .untracked)) ∧
      (s.mode = .run → 24 ≤ s.tracker.queue.length →
        exec .eyeLeadingEdge s =
          .next (({ s with tracker := { s.tracker with eye := .blockedUntracked } }.bump .untracked).raiseAll
            .trackOverflow)) ∧
      (s.mode = .run → s.tracker.queue.length < 24 →
        exec .eyeLeadingEdge s =
          .next ({ s with tracker := { s.tracker with
              eye := .blockedTracked 0, storeCounter := s.nextStore
              queue := s.tracker.queue ++
                [({ store := s.nextStore, lead := s.tracker.pos, trail := none, long := false, report := .none
                    disp := .pending, paired := none, result := none, expiryTaken := false
                    expiryPos := s.tracker.pos + BitVec.ofNat 16 s.activeLayout.decision } : TrackRec)] } }.bump
              .sheetsTracked))) ∧
  (∀ s : State,
      (s.tracker.eye = .blockedUntracked →
        exec .eyeTrailingEdge s = .next { s with tracker := { s.tracker with eye := .clear } }) ∧
      ∀ (n : Nat) (rest : List TrackRec) (r : TrackRec), s.tracker.eye = .blockedTracked n →
        s.tracker.queue = rest ++ [r] →
        (n < 300 →
          exec .eyeTrailingEdge s =
            .next ({ s with tracker := { s.tracker with eye := .clear, queue := rest } }.bump .fragments)) ∧
        (300 ≤ n →
          exec .eyeTrailingEdge s =
            .next { s with tracker := { s.tracker with
              eye := .clear
              queue := rest ++ [{ r with
                trail := some ⟨s.tracker.pos, n, s.tracker.pos + BitVec.ofNat 16 s.activeLayout.lineEnd⟩ }] } }))

/-- The next store number (R20): not 0, carried by no sheet in the part, and reached from the counter by steps past carried
numbers alone. -/
def Obligations.NextStoreNumberIsFree : Prop :=
  ∀ s : State, s.carried.length < 65535 →
    s.nextStore ≠ 0 ∧ s.nextStore ∉ s.carried ∧
      ∃ k : Nat, s.nextStore = storeSucc^[k + 1] s.tracker.storeCounter ∧
        ∀ j < k, storeSucc^[j + 1] s.tracker.storeCounter ∈ s.carried

/-- The deadlines of a record: the long-object check (R23) and the decision expiry, taken once (R24).
The end of the line of a run-out record (R25): it leaves the queue and is counted under its cause, and, by its report
state, as unreported, with SHEET UNREPORTED where no skip has sent it. -/
def Obligations.RecordDeadlines : Prop :=
  (∀ s : State,
      (∀ (n : Nat) (rest : List TrackRec) (r : TrackRec), s.tracker.eye = .blockedTracked n →
        s.tracker.queue = rest ++ [r] → r.long = false → s.tracker.pos = r.lead + 3000 →
        exec .longObject s =
          .next ((s.setQueue (rest ++ [{ r with long := true, disp := .runout .long }])).bump .longObjects)) ∧
      ∀ (front behind : List TrackRec) (r : TrackRec), s.tracker.queue = front ++ r :: behind →
        (∀ x ∈ front ++ behind, x.store ≠ r.store) → r.expiryPos = s.tracker.pos → r.expiryTaken = false →
        (r.disp = .pending →
          exec (.decisionExpiry r.store) s =
            .next ((s.setQueue (front ++ { r with expiryTaken := true, disp := .runout .late } :: behind)).raiseAll
              .late)) ∧
        (r.disp ≠ .pending →
          exec (.decisionExpiry r.store) s =
            .next (s.setQueue (front ++ { r with expiryTaken := true } :: behind)))) ∧
  (∀ (s : State) (front behind : List TrackRec) (r : TrackRec) (e : Trail) (c : RunoutCause),
      s.tracker.queue = front ++ r :: behind → (∀ x ∈ front ++ behind, x.store ≠ r.store) → r.trail = some e →
      e.endPos = s.tracker.pos → r.disp = .runout c →
      (r.report = .none → r.long = false →
        exec (.endOfLine r.store) s =
          .next ((((s.setQueue (front ++ behind)).bump (.runout c)).bump .unreported).send .line
            (.sheetUnreported r.store r.lead e.eyeLength))) ∧
      (r.report = .skipped →
        exec (.endOfLine r.store) s =
          .next (((s.setQueue (front ++ behind)).bump (.runout c)).bump .unreported)) ∧
      (r.report = .none ∧ r.long = true ∨ r.report = .grading ∨ r.report = .graded →
        exec (.endOfLine r.store) s = .next ((s.setQueue (front ++ behind)).bump (.runout c))))

/-- The pairing decision with the engine idle and no swap armed (R5, R26 to R30). The head report pairs with the first
candidate when its length fits, else with the second, the first being skipped; else it is an orphan; with the first
candidate's trailing edge still to come nothing is decided. The report leaves the queue with its lane update (R7), LANE_DOWN
is taken afresh (R203), and a paired report starts a grading on the lanes then usable and the active bank (R10, R36). -/
def Obligations.PairingDecision : Prop :=
  ∀ (s : State) (r : Report) (rest : List Report), s.reports = r :: rest → s.engine = none → s.rules.armed = false →
    (∀ c1 more, s.tracker.queue.filter (fun x => x.report == .none && !x.long) = c1 :: more → c1.trail = none →
      exec .pairingDecision s = .next s) ∧
    (∀ c1 more e1, s.tracker.queue.filter (fun x => x.report == .none && !x.long) = c1 :: more → c1.trail = some e1 →
      (e1.eyeLength ≤ r.length + s.activeLayout.tolerance ∧ r.length ≤ e1.eyeLength + s.activeLayout.tolerance →
        ∃ usable : BitVec 8,
          (∀ i : LaneId, usable.getLsbD i.val =
            (r.mask.getLsbD i.val && ((s.updateLanes r).lanes[i]).state.usable)) ∧
          exec .pairingDecision s =
            .next (({ s.updateLanes r with
              reports := rest
              tracker := { s.tracker with
                queue := s.tracker.queue.map fun x =>
                  if x.store = c1.store then
                    { x with report := .grading, paired := some ⟨r.lineId, r.lot, r.species, r.length⟩ }
                  else x }
              engine := some ⟨r, c1.store, usable, laneCountOf usable, laneCountOf r.mask, s.rules.active,
                s.rules.serial⟩ } : State).takeConditions s)) ∧
      (¬(e1.eyeLength ≤ r.length + s.activeLayout.tolerance ∧ r.length ≤ e1.eyeLength + s.activeLayout.tolerance) →
        (∀ c2 more' e2, more = c2 :: more' → c2.store ≠ c1.store → c2.trail = some e2 →
          e2.eyeLength ≤ r.length + s.activeLayout.tolerance → r.length ≤ e2.eyeLength + s.activeLayout.tolerance →
          ∃ usable : BitVec 8,
            (∀ i : LaneId, usable.getLsbD i.val =
              (r.mask.getLsbD i.val && ((s.updateLanes r).lanes[i]).state.usable)) ∧
            exec .pairingDecision s =
              .next (({ (s.updateLanes r).send .line (.sheetUnreported c1.store c1.lead e1.eyeLength) with
                reports := rest
                tracker := { s.tracker with
                  queue := s.tracker.queue.map fun x =>
                    if x.store = c1.store then
                      { x with
                        report := .skipped
                        disp := if x.disp = .pending then .runout .unreported else x.disp }
                    else if x.store = c2.store then
                      { x with report := .grading, paired := some ⟨r.lineId, r.lot, r.species, r.length⟩ }
                    else x }
                engine := some ⟨r, c2.store, usable, laneCountOf usable, laneCountOf r.mask, s.rules.active,
                  s.rules.serial⟩ } : State).takeConditions s)) ∧
        ((∀ c2 more' e2, more = c2 :: more' → c2.trail = some e2 →
            ¬(e2.eyeLength ≤ r.length + s.activeLayout.tolerance ∧
              r.length ≤ e2.eyeLength + s.activeLayout.tolerance)) →
          exec .pairingDecision s =
            .next ((((({ s with reports := rest } : State).updateLanes r).send .line
              (.orphan r.lineId r.length)).raiseAll .orphan).bump .orphans |>.takeConditions s)))) ∧
    (s.tracker.queue.filter (fun x => x.report == .none && !x.long) = [] →
      exec .pairingDecision s =
        .next ((((({ s with reports := rest } : State).updateLanes r).send .line
          (.orphan r.lineId r.length)).raiseAll .orphan).bump .orphans |>.takeConditions s))

/-- LINE RESTART (R31, R38, R90): every tracking record, waiting report, grading and gate entry goes, with the backlash; an
armed swap is exchanged; the reply counts the records and the reports. Lanes, in-flight lists, stacks and holds stay, and a
tracked object at the eye becomes untracked. A FLOAT bin left with nothing has no class (R115), and a search round follows when
a bin's inbound count has reached 0 (R105), one round whatever their number, by the model's reading (notes/assumptions/9.md). A
payload is refused. -/
def Obligations.LineRestart : Prop :=
  ∀ (p : Port) (f : Frame) (s : State), s.asks p 0x02 f →
    (f.payload ≠ [] → exec (.lineRestart p f) s = .next (s.answer p ⟨.badArg, []⟩)) ∧
    (f.payload = [] →
      ∃ t : State, exec (.lineRestart p f) s =
          .next (t.answer p ⟨.ok, [u8 s.tracker.queue.length, u8 (s.reports.length + bit s.engine.isSome)]⟩) ∧
        t.reports = [] ∧ t.engine = none ∧
        t.tracker = { s.tracker with
          backlash := 0, queue := []
          eye := match s.tracker.eye with
            | .clear => .clear
            | .blockedTracked _ => .blockedUntracked
            | .blockedUntracked => .blockedUntracked } ∧
        t.rules = (if s.rules.armed then
            { s.rules with active := s.rules.active.other, armed := false, serial := s.rules.serial + 1 }
          else s.rules) ∧
        (s.rules.armed = true →
          ∀ q : Port, (t.port q).flags.getLsbD 9 = true ∧ (t.port q).seen.getLsbD 9 = false) ∧
        (∀ b : BinId, t.gate b = ⟨none, none, false⟩ ∧ (t.bin b).inFlight = (s.bin b).inFlight ∧
          (t.bin b).state = (s.bin b).state ∧ (t.bin b).questioned = (s.bin b).questioned ∧
          (t.bin b).stack.map Sheet.unmarked = (s.bin b).stack.map Sheet.unmarked) ∧
        t.counters = (s.bumpBy .restartLosses s.tracker.queue.length).counters ∧
        t.lanes = s.lanes ∧ t.lotHolds = s.lotHolds ∧ t.mode = s.mode ∧ t.pendingLayout = s.pendingLayout ∧
        t.activeLayout = s.activeLayout ∧
        ∃ u : State, u = { s with
            tracker := t.tracker, reports := [], engine := none, rules := t.rules, gates := t.gates
            counters := t.counters, bins := u.bins
            ports := if s.rules.armed then (s.raiseAll .swapDone).ports else s.ports } ∧
          (∀ b : BinId, u.bin b = { s.bin b with
            current := if (s.bin b).mode = .float ∧ (s.bin b).stack = [] ∧ (s.bin b).inFlight = [] ∧
                (s.bin b).questioned = none then none else (s.bin b).current }) ∧
          ((∃ b, 0 < s.inbound b ∧ (s.bin b).inFlight = []) → t = u.searchRound) ∧
          (¬(∃ b, 0 < s.inbound b ∧ (s.bin b).inFlight = []) → t = u))

/-! ## Grading -/

/-- A completion that does not route (R53 to R58): the class is counted, SHEET DECIDED is sent with the result and the
decision, and the report is released. The decision is LATE for a record that has gone or expired, NO_SCAN for a pending
record without a class; the record takes the result. With its report released the engine is IDLE, and a swap that is armed
is exchanged at this point, with SWAP_DONE on every port (R58, R68, R69). -/
def Obligations.CompletionWithoutRouting : Prop :=
  (∀ (s : State) (g : Grading) (x : GradeResult), s.engine = some g → x = s.gradingResult g →
    ((∀ y ∈ s.tracker.queue, y.store = g.store → y.report ≠ .grading) →
      exec .gradingCompletion s =
        .next ((s.countGrade x).send .line
          (.sheetDecided g.report.lineId g.store (.runout .late) x)).releaseEngine) ∧
    ∀ (front behind : List TrackRec) (r : TrackRec), s.tracker.queue = front ++ r :: behind → r.store = g.store →
      r.report = .grading → (∀ y ∈ front ++ behind, y.store ≠ r.store) →
      (r.disp = .runout .late →
        exec .gradingCompletion s =
          .next (((s.countGrade x).setQueue
              (front ++ { r with report := .graded, result := some x } :: behind)).send .line
                (.sheetDecided g.report.lineId g.store (.runout .late) x)).releaseEngine) ∧
      (r.disp = .pending → x.cls = none →
        exec .gradingCompletion s =
          .next ((s.setQueue (front ++
              { r with report := .graded, result := some x, disp := .runout .noScan } :: behind)).send .line
                (.sheetDecided g.report.lineId g.store (.runout .noScan) x)).releaseEngine)) ∧
  ∀ u : State,
    (u.rules.armed = false → u.releaseEngine = { u with engine := none }) ∧
    (u.rules.armed = true → u.releaseEngine =
      ({ u with engine := none, rules := { u.rules with
        active := u.rules.active.other, armed := false, serial := u.rules.serial + 1 } } : State).raiseAll .swapDone)

/-- A completion that routes a pending sheet of a class (R53 to R58, R73, R76 to R80): HELD_LOT when its lot is held, else
the bin the Router chooses, with its gate entry written and a class for a FLOAT bin that has none, else NO_ROOM. The report is
released and an armed swap exchanged as CompletionWithoutRouting spells out. -/
def Obligations.CompletionRoutes : Prop :=
  ∀ (s : State) (g : Grading) (x : GradeResult) (c : GradeClass) (front behind : List TrackRec) (r : TrackRec)
      (i : PairInfo) (e : Trail), s.engine = some g → x = s.gradingResult g → x.cls = some c →
    s.tracker.queue = front ++ r :: behind → r.store = g.store → r.report = .grading → r.disp = .pending →
    (∀ y ∈ front ++ behind, y.store ≠ r.store) → r.paired = some i → r.trail = some e →
    (i.lot ∈ s.lotHolds →
      exec .gradingCompletion s =
        .next (((s.bump (.graded c)).setQueue (front ++
            { r with report := .graded, result := some x, disp := .runout .heldLot } :: behind)).send .line
              (.sheetDecided g.report.lineId g.store (.runout .heldLot) x)).releaseEngine) ∧
    (i.lot ∉ s.lotHolds → s.chooseBin c r.lead = none →
      exec .gradingCompletion s =
        .next (((s.bump (.graded c)).setQueue (front ++
            { r with report := .graded, result := some x, disp := .runout .noRoom } :: behind)).send .line
              (.sheetDecided g.report.lineId g.store (.runout .noRoom) x)).releaseEngine) ∧
    ∀ b : BinId, i.lot ∉ s.lotHolds → s.chooseBin c r.lead = some b →
      ∃ (entry : GateEntry) (gate : Gate),
        entry = ⟨r.store, r.lead + BitVec.ofNat 16 (s.bin b).gate - BitVec.ofNat 16 s.activeLayout.lead,
          e.pos + BitVec.ofNat 16 (s.bin b).gate + BitVec.ofNat 16 s.activeLayout.tail, entry.opened⟩ ∧
        (((s.gate b).lead = none ∧ gate = { s.gate b with lead := some entry, output := entry.opened } ∧
            entry.opened = decide (entry.openPos = s.tracker.pos)) ∨
          ((s.gate b).lead ≠ none ∧ gate = { s.gate b with follow := some entry } ∧ entry.opened = false)) ∧
        exec .gradingCompletion s =
          .next (((((s.bump (.graded c)).setQueue (front ++
              { r with report := .graded, result := some x, disp := .bin b } :: behind)).setGate b gate).setBin b
                { s.bin b with
                  current := if (s.bin b).mode = .float ∧ (s.bin b).current = none then some c
                    else (s.bin b).current }).send .line
                (.sheetDecided g.report.lineId g.store (.bin b) x)).releaseEngine

/-- The five tests of R48 in their order, the width class of R42 and the figures of R43 and R46 over the counted defects.
The class and the reason (R39, R41, R47 to R51), for the usable lanes of a report, its width class and its defect
figures: NO_SCAN without a usable lane; W when wet; N for a strip; else the finest grade from A, or from C when degraded or
HALF, all of whose five tests hold, or K or R when none has them hold. -/
def Obligations.ClassDecision : Prop :=
  ((∀ (l : GradeLimits) (x : Figures),
      (firstFailing l x = .knot ↔ l.knotMax < x.knot) ∧
      (firstFailing l x = .opening ↔ x.knot ≤ l.knotMax ∧ l.openMax < x.openings) ∧
      (firstFailing l x = .split ↔ x.knot ≤ l.knotMax ∧ x.openings ≤ l.openMax ∧ l.splitMax < x.split) ∧
      (firstFailing l x = .stain ↔ x.knot ≤ l.knotMax ∧ x.openings ≤ l.openMax ∧ x.split ≤ l.splitMax ∧
        x.stained = true ∧ l.stainOk = false) ∧
      (firstFailing l x = .density ↔ x.knot ≤ l.knotMax ∧ x.openings ≤ l.openMax ∧ x.split ≤ l.splitMax ∧
        (x.stained = true → l.stainOk = true) ∧ l.densityMax < x.density) ∧
      (firstFailing l x = .none ↔ x.knot ≤ l.knotMax ∧ x.openings ≤ l.openMax ∧ x.split ≤ l.splitMax ∧
        (x.stained = true → l.stainOk = true) ∧ x.density ≤ l.densityMax)) ∧
    (∀ (k : Bank) (w : Nat),
      (k.wFull ≤ w → widthClass k w = .full) ∧ (w < k.wFull → k.wHalf ≤ w → widthClass k w = .half) ∧
      (w < k.wFull → w < k.wHalf → widthClass k w = .strip)) ∧
    ∀ (lanes : List LaneId) (ds : List Defect),
      (∀ d, d ∈ countedDefects lanes ds ↔ d ∈ ds ∧ d.lane ∈ lanes) ∧ (countedDefects lanes ds).Sublist ds ∧
      (∀ d, d.lane ∈ lanes → (countedDefects lanes ds).count d = ds.count d) ∧
      (∀ d ∈ ds, d.kind = .soundKnot ∨ d.kind = .openKnot → d.size ≤ largestKnot ds) ∧
      (largestKnot ds = 0 ∨ ∃ d ∈ ds, (d.kind = .soundKnot ∨ d.kind = .openKnot) ∧ d.size = largestKnot ds) ∧
      openCount ds = ds.countP (fun d => d.kind == .openKnot) + ds.countP (fun d => d.kind == .hole) ∧
      splitTotal ds = (ds.map fun d => if d.kind = .split then d.size else 0).sum ∧
      (isStained ds = true ↔ ∃ d ∈ ds, d.kind = .stain)) ∧
  (∀ (k : Bank) (no : BankNo) (serial : Serial) (r : Report) (usable : BitVec 8) (lanes : List LaneId) (x : GradeResult)
        (figures : Figures),
      lanes = lanesInOrder.filter (fun i => r.mask.getLsbD i.val && usable.getLsbD i.val) →
      x = gradeReport k no serial r usable →
      figures = ⟨x.density, largestKnot (countedDefects lanes r.defects), openCount (countedDefects lanes r.defects),
        splitTotal (countedDefects lanes r.defects), isStained (countedDefects lanes r.defects)⟩ →
      x.bank = no ∧ x.serial = serial ∧ (x.degraded = true ↔ lanes.length < laneCountOf r.mask ∨ lanes = []) ∧
      (lanes = [] → x.cls = none ∧ x.width = none ∧ x.reason = .noScan ∧ x.capped = false ∧ x.density = 0 ∧
        x.moistMax = 0 ∧ x.moistMean = 0) ∧
      (lanes ≠ [] →
        x.width = some (widthClass k r.width) ∧
        (k.wetLaneLimit < x.moistMax ∨ k.wetMeanLimit < x.moistMean →
          x.cls = some .W ∧ x.reason = .wet ∧ x.capped = false) ∧
        (x.moistMax ≤ k.wetLaneLimit → x.moistMean ≤ k.wetMeanLimit →
          (widthClass k r.width = .strip → x.cls = some .N ∧ x.reason = .strip ∧ x.capped = false) ∧
          (widthClass k r.width ≠ .strip →
            (x.capped = true ↔ x.degraded = true ∨ widthClass k r.width = .half) ∧
            x.reason = firstFailing k.grade[if x.capped then (2 : Fin 4) else 0] figures ∧
            (∀ i : Fin 4, (x.capped = true → 2 ≤ i) → firstFailing k.grade[i] figures = .none →
              (∀ j : Fin 4, (x.capped = true → 2 ≤ j) → j < i → firstFailing k.grade[j] figures ≠ .none) →
              x.cls = some (appearanceClass i)) ∧
            ((∀ i : Fin 4, (x.capped = true → 2 ≤ i) → firstFailing k.grade[i] figures ≠ .none) →
              x.cls = some (if x.density ≤ k.coreDensityMax ∧ figures.openings ≤ k.coreOpenMax then .K else .R))))))

/-- The figures of a report with a usable lane, and the bounds that the rules give them (R40, R43, R44, R45): the mean moisture
is rounded with halves up, the raw score sums weight by size, at most 255 mm each, and the area is over the covered width; the
mean moisture lies between two of the usable lanes' readings and the maximum is one of them; the raw score is at most 91,800, the covered area
30 to 42,000 cm², and the density at most 65535. -/
def Obligations.GradingFigureBounds : Prop :=
  ∀ (k : Bank) (no : BankNo) (serial : Serial) (r : Report) (usable : BitVec 8) (lanes : List LaneId) (x : GradeResult),
    lanes = lanesInOrder.filter (fun i => r.mask.getLsbD i.val && usable.getLsbD i.val) → lanes ≠ [] →
    x = gradeReport k no serial r usable → 300 ≤ r.length → r.length ≤ 3000 → 100 ≤ r.width → r.width ≤ 1400 →
    r.defects.length ≤ 24 → (∀ j : Fin 6, k.weight[j] ≤ 15) →
    x.moistMean = (2 * (lanes.map fun i => r.moisture[i]).sum + lanes.length) / (2 * lanes.length) ∧
    (∀ ds : List Defect, rawScore k ds = (ds.map fun d => k.weight[d.kind.code] * min d.size 255).sum) ∧
    coveredArea r.length r.width lanes.length (laneCountOf r.mask) =
      r.length / 10 * (r.width * lanes.length / laneCountOf r.mask / 10) ∧
    (∃ lo ∈ lanes, ∃ hi ∈ lanes, r.moisture[lo] ≤ x.moistMean ∧ x.moistMean ≤ r.moisture[hi] ∧
      x.moistMax = r.moisture[hi] ∧ ∀ i ∈ lanes, r.moisture[lo] ≤ r.moisture[i] ∧ r.moisture[i] ≤ x.moistMax) ∧
    rawScore k (countedDefects lanes r.defects) ≤ 91800 ∧
    30 ≤ coveredArea r.length r.width lanes.length (laneCountOf r.mask) ∧
    coveredArea r.length r.width lanes.length (laneCountOf r.mask) ≤ 42000 ∧
    x.density = min 65535 (rawScore k (countedDefects lanes r.defects) * 10000 /
      coveredArea r.length r.width lanes.length (laneCountOf r.mask))

/-! ## Rule banks -/

/-- RULE WRITE into the standby bank with no swap armed (R60 to R63): each group's fields clamped on their own, the other
fields of the bank kept, and CLAMPED in the reply when a field was. With a swap armed the write is refused BUSY; a payload
that is no group with its fields is refused BAD_ARG. -/
def Obligations.RuleWrite : Prop :=
  ∀ (p : Port) (f : Frame) (s : State), s.asks p 0x10 f →
    (f.payload = [] ∨ (∃ g rest, f.payload = g :: rest ∧ ruleGroupLength g.toNat ≠ some rest.length) →
      exec (.ruleWrite p f) s = .next (s.answer p ⟨.badArg, []⟩)) ∧
    (∀ w0 w1 w2 w3 w4 w5 : Byte, f.payload = [0, w0, w1, w2, w3, w4, w5] →
      (s.rules.armed = true → exec (.ruleWrite p f) s = .next (s.answer p ⟨.busy, []⟩)) ∧
      (s.rules.armed = false →
        ∃ kept : Bank, kept = { s.rules.bank s.rules.active.other with
            weight := #v[min 15 w0.toNat, min 15 w1.toNat, min 15 w2.toNat, min 15 w3.toNat, min 15 w4.toNat,
              min 15 w5.toNat] } ∧
          exec (.ruleWrite p f) s =
            .next (({ s with rules := s.rules.setBank s.rules.active.other kept } : State).answer p
              ⟨if ∀ w ∈ [w0, w1, w2, w3, w4, w5], w.toNat ≤ 15 then .ok else .clamped,
                [u8 s.rules.active.other.code, 0] ++ kept.groupBytes 0⟩))) ∧
    (∀ (k : Fin 4) (knot split density : BitVec 16) (openings stain : Byte),
      f.payload = u8 (k.val + 1) :: (be16 knot.toNat ++ [openings] ++ be16 split.toNat ++ [stain] ++
        be16 density.toNat) →
      (1 < stain.toNat → exec (.ruleWrite p f) s = .next (s.answer p ⟨.badArg, []⟩)) ∧
      (stain.toNat ≤ 1 → s.rules.armed = true → exec (.ruleWrite p f) s = .next (s.answer p ⟨.busy, []⟩)) ∧
      (stain.toNat ≤ 1 → s.rules.armed = false →
        ∃ kept : Bank, kept = { s.rules.bank s.rules.active.other with
            grade := (s.rules.bank s.rules.active.other).grade.set k
              ⟨max 1 (min 1023 knot.toNat), min 24 openings.toNat, min 9999 split.toNat, stain == 1,
                density.toNat⟩ } ∧
          exec (.ruleWrite p f) s =
            .next (({ s with rules := s.rules.setBank s.rules.active.other kept } : State).answer p
              ⟨if 1 ≤ knot.toNat ∧ knot.toNat ≤ 1023 ∧ openings.toNat ≤ 24 ∧ split.toNat ≤ 9999 then .ok
                else .clamped,
                [u8 s.rules.active.other.code, u8 (k.val + 1)] ++ kept.groupBytes (k.val + 1)⟩))) ∧
    (∀ (core wetLane wetMean full half : BitVec 16) (coreOpen : Byte),
      f.payload = 5 :: (be16 core.toNat ++ [coreOpen] ++ be16 wetLane.toNat ++ be16 wetMean.toNat ++
        be16 full.toNat ++ be16 half.toNat) →
      (s.rules.armed = true → exec (.ruleWrite p f) s = .next (s.answer p ⟨.busy, []⟩)) ∧
      (s.rules.armed = false →
        ∃ kept : Bank, kept = { s.rules.bank s.rules.active.other with
            coreDensityMax := core.toNat, coreOpenMax := min 24 coreOpen.toNat
            wetLaneLimit := min 400 wetLane.toNat, wetMeanLimit := min 400 wetMean.toNat
            wFull := max 100 (min 1400 full.toNat), wHalf := max 100 (min 1400 half.toNat) } ∧
          exec (.ruleWrite p f) s =
            .next (({ s with rules := s.rules.setBank s.rules.active.other kept } : State).answer p
              ⟨if coreOpen.toNat ≤ 24 ∧ wetLane.toNat ≤ 400 ∧ wetMean.toNat ≤ 400 ∧ 100 ≤ full.toNat ∧
                  full.toNat ≤ 1400 ∧ 100 ≤ half.toNat ∧ half.toNat ≤ 1400 then .ok else .clamped,
                [u8 s.rules.active.other.code, 5] ++ kept.groupBytes 5⟩)))

/-- RULE SWAP (R66, R67, R68): BUSY while a swap is armed; INVALID with the first failing group and field for a standby bank
that fails validation; else the exchange, at once with the engine IDLE, armed while it is GRADING.
The exchange of an armed swap (R68, R69): the active index changes, the serial rises by one, the mark is cleared and
SWAP_DONE is set on every port; no field of a bank changes. It is made within the completion of the grading it waits for
(CompletionWithoutRouting); that ARMED SWAP EXCHANGE stands for that completion while the engine is GRADING is the model's
reading (notes/assumptions/6.md). -/
def Obligations.RuleSwapAndExchange : Prop :=
  (∀ (p : Port) (f : Frame) (s : State), s.asks p 0x12 f →
      (f.payload ≠ [] → exec (.ruleSwap p f) s = .next (s.answer p ⟨.badArg, []⟩)) ∧
      (f.payload = [] →
        (s.rules.armed = true → exec (.ruleSwap p f) s = .next (s.answer p ⟨.busy, []⟩)) ∧
        (s.rules.armed = false →
          (∀ g i, (s.rules.bank s.rules.active.other).fault = some (g, i) →
            exec (.ruleSwap p f) s = .next (s.answer p ⟨.invalid, [u8 g, u8 i]⟩)) ∧
          ((s.rules.bank s.rules.active.other).fault = none →
            (s.engine = none →
              exec (.ruleSwap p f) s =
                .next ((({ s with rules := { s.rules with
                    active := s.rules.active.other, serial := s.rules.serial + 1 } } : State).raiseAll .swapDone).answer p
                  ⟨.ok, 0 :: be16 (s.rules.serial + 1).toNat⟩)) ∧
            (s.engine ≠ none →
              exec (.ruleSwap p f) s =
                .next (({ s with rules := { s.rules with armed := true } } : State).answer p
                  ⟨.ok, 1 :: be16 s.rules.serial.toNat⟩)))))) ∧
  (∀ s : State, s.rules.armed = true →
      (∀ g, s.engine = some g → exec .armedSwapExchange s = exec .gradingCompletion s) ∧
      (s.engine = none → exec .armedSwapExchange s =
        .next (({ s with rules := { s.rules with
          active := s.rules.active.other, armed := false, serial := s.rules.serial + 1 } } : State).raiseAll .swapDone)))

/-- Bank validation (R65): a bank has no failing check exactly when every limit rises or stays from A to D, stain_ok stays
yes once yes, the core limits are at least those of D, and W_half is less than W_full. What is named is the first check that
fails, group by group from 2 to 5 and field by field: each grade against the one before, then the core density, the core
openings and W_half. -/
def Obligations.BankValidation : Prop :=
  ∀ k : Bank,
    (k.fault = none ↔
      (∀ i j : Fin 4, i ≤ j → k.grade[i].knotMax ≤ k.grade[j].knotMax ∧ k.grade[i].openMax ≤ k.grade[j].openMax ∧
        k.grade[i].splitMax ≤ k.grade[j].splitMax ∧ (k.grade[i].stainOk = true → k.grade[j].stainOk = true) ∧
        k.grade[i].densityMax ≤ k.grade[j].densityMax) ∧
      k.grade[(3 : Fin 4)].densityMax ≤ k.coreDensityMax ∧ k.grade[(3 : Fin 4)].openMax ≤ k.coreOpenMax ∧
        k.wHalf < k.wFull) ∧
    ∃ fails : Nat → Nat → Prop,
      (∀ g i, fails g i ↔
        (∃ j : Fin 3, g = j.val + 2 ∧
          (i = 0 ∧ k.grade[j.succ].knotMax < k.grade[j.castSucc].knotMax ∨
            i = 1 ∧ k.grade[j.succ].openMax < k.grade[j.castSucc].openMax ∨
            i = 2 ∧ k.grade[j.succ].splitMax < k.grade[j.castSucc].splitMax ∨
            i = 3 ∧ k.grade[j.succ].stainOk = false ∧ k.grade[j.castSucc].stainOk = true ∨
            i = 4 ∧ k.grade[j.succ].densityMax < k.grade[j.castSucc].densityMax)) ∨
        g = 5 ∧ (i = 0 ∧ k.coreDensityMax < k.grade[(3 : Fin 4)].densityMax ∨
          i = 1 ∧ k.coreOpenMax < k.grade[(3 : Fin 4)].openMax ∨ i = 5 ∧ k.wFull ≤ k.wHalf)) ∧
      ∀ g i, k.fault = some (g, i) ↔ fails g i ∧ ∀ g' i', g' < g ∨ g' = g ∧ i' < i → ¬fails g' i'

/-! ## Routing and gates -/

/-- The Router's candidates (R77): every condition of the table, with the gate condition of R74 spelled out. -/
def Obligations.RouterCandidates : Prop :=
  ∀ (s : State) (c : GradeClass) (lead : Pos) (b : BinId),
    (s.routeCandidate c lead b).isSome ↔
      (s.bin b).state = .service ∧
      ((s.bin b).mode = .fixed ∧ (s.bin b).current = some c ∨
        (s.bin b).mode = .float ∧ ((s.bin b).current = some c ∨ (s.bin b).current = none)) ∧
      (s.bin b).claim = none ∧ (∀ x ∈ (s.bin b).stack, x.reserved = none) ∧ s.inbound b ≤ 2 ∧
      (s.bin b).stack.length + s.inbound b < (s.bin b).capacity ∧
      ((s.gate b).lead = none ∨ ∃ e, (s.gate b).lead = some e ∧ (s.gate b).follow = none ∧
        forwardDistance s.tracker.pos e.closePos <
          forwardDistance s.tracker.pos
            (lead + BitVec.ofNat 16 (s.bin b).gate - BitVec.ofNat 16 s.activeLayout.lead))

/-- The Router's choice (R78): a candidate that every other candidate follows by kind, then by the greater sum of stack and
inbound counts, then by the higher bin number; there is one exactly when there is a candidate. -/
def Obligations.RouterChoice : Prop :=
  ∀ (s : State) (c : GradeClass) (lead : Pos),
    (s.chooseBin c lead = none ↔ ∀ b, s.routeCandidate c lead b = none) ∧
    ∀ b, s.chooseBin c lead = some b →
      ∃ x, s.routeCandidate c lead b = some x ∧
        x.kind = (if (s.bin b).mode = .fixed then 0 else if (s.bin b).current = some c then 1 else 2) ∧
        x.sum = (s.bin b).stack.length + s.inbound b ∧
        ∀ b' x', b' ≠ b → s.routeCandidate c lead b' = some x' →
          x.kind < x'.kind ∨ x.kind = x'.kind ∧ (x'.sum < x.sum ∨ x.sum = x'.sum ∧ b < b')

/-- A gate at the positions of its lead entry (R82, R83, R84): at the open position the entry is marked and the output goes
on; at the close position the output goes off, the follow entry moves up and the sheet joins the in-flight list of a bin in
SERVICE, DRAIN or CHECK with its window, or is lost and counted in LOCKOUT, with a search round when nothing is inbound any
more (R105).
What a gate's close hands over (R83, R96): the sheet record of a paired and graded tracking record, with its fields from
the record and its result, the HELD mark clear and no reservation. -/
def Obligations.GateWorkAndHandOver : Prop :=
  (∀ (s : State) (b : BinId) (e : GateEntry), (s.gate b).lead = some e →
      (e.opened = false → e.openPos = s.tracker.pos →
        exec (.gateOpen b) s =
          .next (s.setGate b { s.gate b with lead := some { e with opened := true }, output := true })) ∧
      (e.closePos = s.tracker.pos →
        ∀ (front behind : List TrackRec) (r : TrackRec) (x : Sheet), s.tracker.queue = front ++ r :: behind →
          r.store = e.store → (∀ y ∈ front ++ behind, y.store ≠ r.store) → r.sheet = some x →
          ((s.bin b).state = .service ∨ (s.bin b).state = .drain ∨ (s.bin b).state = .check →
            exec (.gateClose b) s =
              .next (((s.setGate b ⟨(s.gate b).follow, none, false⟩).setQueue (front ++ behind)).setBin b
                { s.bin b with
                  inFlight := (s.bin b).inFlight ++ [⟨x, s.now + s.activeLayout.window⟩] })) ∧
          ((s.bin b).state = .lockout →
            ∃ t u : State, exec (.gateClose b) s = .next t ∧
              u = (((s.setGate b ⟨(s.gate b).follow, none, false⟩).setQueue (front ++ behind)).bump
                .lostAtGateClose).floatRelease b ∧
              (u.inbound b ≠ 0 → t = u) ∧ (u.inbound b = 0 → u.RoundFrame t ∧ t = u.searchRound)))) ∧
  (∀ (r : TrackRec) (i : PairInfo) (g : GradeResult) (c : GradeClass) (w : WidthClass), r.paired = some i →
      r.result = some g → g.cls = some c → g.width = some w →
      r.sheet = some ⟨r.store, i.lineId, i.lot, i.length, g.density, c, w, i.species, g.degraded, g.capped, false, none⟩)

/-! ## The Grade Store -/

/-- A pulse on LANDb (R98 to R100, R103): ignored in OFF and LOCKOUT; with a sheet in flight the oldest lands on top of the
stack, HELD when its lot is held; with none it is a stray landing, which puts a bin in SERVICE or DRAIN into CHECK with its
reservations revoked and its unopened gate entries cancelled, and a bin in CHECK into LOCKOUT as a second failure. Each
revoked record's grant is removed and reported, from the top down; the lost call plies stand re-served in that order behind
the plies re-served before them, a lost patch returns to its slot, a waiting ply is set aside, and a search round by that
feeder follows (R161, R164). Every other of these events is followed by a search round too (R105, R152), one for all the changes it hands over, by the
model's reading (notes/assumptions/9.md). That the condition flags are taken once at the end of the command is the model's reading
(notes/assumptions/12.md). -/
def Obligations.LandingPulse : Prop :=
  ∀ (s : State) (b : BinId),
    ((s.bin b).state = .off ∨ (s.bin b).state = .lockout → exec (.landPulse b) s = .next s) ∧
    (∀ x rest, (s.bin b).state = .service ∨ (s.bin b).state = .drain ∨ (s.bin b).state = .check →
      (s.bin b).inFlight = x :: rest →
      ∃ t u : State, exec (.landPulse b) s = .next t ∧
        u = (s.setBin b { s.bin b with
          inFlight := rest
          stack := (s.bin b).stack ++
            [{ x.sheet with held := s.lotHolds.contains x.sheet.lot, reserved := none }] }).bump .landed ∧
        u.RoundFrame t ∧ t = u.searchRound) ∧
    ((s.bin b).state = .service ∨ (s.bin b).state = .drain → (s.bin b).inFlight = [] →
      (∀ x ∈ (s.bin b).stack, ∀ y ∈ (s.bin b).stack, ∀ g h, x.reserved = some g → y.reserved = some h → g = h) →
      ∃ t, exec (.landPulse b) s = .next t ∧ (t.bin b).state = .check ∧ (t.bin b).stray = true ∧
        (t.bin b).resume = (if (s.bin b).state = .service then some .service else some .drain) ∧
        (t.bin b).inFlight = [] ∧ (t.bin b).questioned = (s.bin b).questioned ∧
        (t.bin b).stack.map Sheet.unmarked = (s.bin b).stack.map Sheet.unmarked ∧
        (∀ x ∈ (t.bin b).stack, x.reserved = none) ∧
        (t.gate b).lead = (s.gate b).lead.filter (·.opened) ∧ (t.gate b).follow = (s.gate b).follow.filter (·.opened) ∧
        t.tracker = { s.tracker with queue := s.tracker.queue.map fun r =>
          if r.store ∈ (s.gate b).unopened then { r with disp := .runout .cancelled } else r } ∧
        t.counters = (s.bump .strayLandings).counters ∧
        (∀ p : Port, (t.port p).flags.getLsbD 11 = true ∧ (t.port p).seen.getLsbD 11 = false ∧
          (t.port p).flags.getLsbD 13 = (!s.binCheck || (s.port p).flags.getLsbD 13)) ∧
        (∀ g : Feeder, (s.bin b).holder = some g → (t.port (.feeder g)).flags.getLsbD 4 = true) ∧
        (∀ b' : BinId, b' ≠ b → (s.bin b').RoundFrame (t.bin b') ∧ t.gate b' = s.gate b') ∧
        ((∀ x ∈ (s.bin b).stack, x.reserved = none) →
          ∃ u : State, t = u.searchRound.takeConditions s ∧
            u = ((((s.cancelGate b).bump .strayLandings).raiseAll .strayLanding).setBin b { s.bin b with
              state := .check, stray := true
              resume := if (s.bin b).state = .service then some .service else some .drain }).floatRelease b)) ∧
    (∀ (g : Feeder) (revoked : List Grant), (s.bin b).state = .service ∨ (s.bin b).state = .drain →
      (s.bin b).inFlight = [] → (∀ x ∈ (s.bin b).stack, x.reserved = none ∨ x.reserved = some g) → revoked ≠ [] →
      revoked.map (·.store) = ((s.bin b).stack.reverse.filter fun x => x.reserved == some g).map (·.store) →
      (revoked.map (·.store)).Nodup → (∀ e ∈ revoked, e ∈ (s.feeder g).allGrants) →
      ((s.feeder g).allGrants.map (·.store)).Nodup → (s.feeder g).CallSound →
      (s.port (.feeder g)).outcomes.length + revoked.length ≤ 8 →
      ∃ t u v : State, exec (.landPulse b) s = .next t ∧ t = (u.searchRoundBy g).takeConditions s ∧
        u = { s with
          tracker := t.tracker, gates := t.gates, bins := u.bins, feeders := u.feeders, ports := u.ports
          counters := t.counters } ∧
        u.feeder g = { s.feeder g with
          waiting := none
          grants := (s.feeder g).grants.filter fun x => !(revoked.map (·.store)).contains x.store
          unserved := (s.feeder g).unserved.takeWhile (·.reServed) ++
            (revoked.filter fun e => !e.entry.origin.isPatch).map (fun e => { e.entry with reServed := true }) ++
            (s.feeder g).unserved.dropWhile (·.reServed)
          patch := match revoked.find? (fun e => e.entry.origin.isPatch) with
            | some e => .unserved { e.entry with reServed := true }
            | none => (s.feeder g).patch } ∧
        u.feeder g.other = s.feeder g.other ∧
        u.bin b = { s.bin b with
          state := .check, stray := true
          resume := if (s.bin b).state = .service then some .service else some .drain
          stack := (s.bin b).stack.map fun x => { x with reserved := none }
          claim := if (s.feeder g).waiting ≠ none ∧ (s.bin b).claim = some g then none else (s.bin b).claim } ∧
        (∀ b' : BinId, b' ≠ b → u.bin b' = { s.bin b' with
          claim := if (s.feeder g).waiting ≠ none ∧ (s.bin b').claim = some g then none else (s.bin b').claim }) ∧
        v = s.raiseAll .strayLanding ∧
        u.ports = ((v.setPort (.feeder g) { v.port (.feeder g) with
          outcomes := (s.port (.feeder g)).outcomes ++
            revoked.map fun e => .grantRevoked e.store b e.entry.origin }).raise (.feeder g) .revoked).ports) ∧
    ((s.bin b).state = .check → (s.bin b).inFlight = [] →
      ∃ t, exec (.landPulse b) s = .next t ∧ (t.bin b).state = .lockout ∧ (t.bin b).questioned = none ∧
        (t.bin b).stray = false ∧ (t.bin b).resume = none ∧ (t.bin b).uncertain = true ∧
        (t.bin b).inFlight = [] ∧ (t.bin b).claim = none ∧
        (t.bin b).stack.map Sheet.unmarked = (s.bin b).stack.map Sheet.unmarked ∧
        (t.gate b).lead = (s.gate b).lead.filter (·.opened) ∧ (t.gate b).follow = (s.gate b).follow.filter (·.opened) ∧
        t.tracker = { s.tracker with queue := s.tracker.queue.map fun r =>
          if r.store ∈ (s.gate b).unopened then { r with disp := .runout .cancelled } else r } ∧
        (∀ b' : BinId, b' ≠ b → (s.bin b').RoundFrame (t.bin b')) ∧
        t.counters = ((s.bump .strayLandings).bumpBy .questionedDiscarded (bit (s.bin b).questioned.isSome)).counters ∧
        (∀ p : Port, (t.port p).flags.getLsbD 11 = true ∧ (t.port p).seen.getLsbD 11 = false) ∧
        ∃ u : State, t = u.searchRound.takeConditions s ∧
          u = (((((s.cancelGate b).bump .strayLandings).bumpBy .questionedDiscarded
            (bit (s.bin b).questioned.isSome)).raiseAll .strayLanding).setBin b { s.bin b with
              state := .lockout, questioned := none, inFlight := [], resume := none, stray := false, uncertain := true
              claim := none }).floatRelease b)

/-- The expiry of a landing window (R101, R103): in SERVICE or DRAIN the record becomes the questioned record at the present
stack height, the bin enters CHECK and unopened gate entries are cancelled; in CHECK it is a second failure, which discards
the questioned and the in-flight records and locks the bin out as uncertain. A search round follows each (R105, R152), one for all the changes it hands over; that and the condition flags taken once at the
end of the event are the model's readings (notes/assumptions/9.md, notes/assumptions/12.md). -/
def Obligations.WindowExpiry : Prop :=
  ∀ (s : State) (b : BinId) (x : InFlight) (front behind : List InFlight), (s.bin b).inFlight = front ++ x :: behind →
    (∀ y ∈ front ++ behind, y.sheet.store ≠ x.sheet.store) → x.expiry ≤ s.now →
    ((s.bin b).state = .service ∨ (s.bin b).state = .drain →
      ∃ t, exec (.windowExpiry b x.sheet.store) s = .next t ∧ (t.bin b).state = .check ∧
        (t.bin b).questioned = some ⟨x.sheet, (s.bin b).stack.length⟩ ∧ (t.bin b).inFlight = front ++ behind ∧
        (t.bin b).resume = (if (s.bin b).state = .service then some .service else some .drain) ∧
        (t.bin b).stray = (s.bin b).stray ∧ (t.bin b).current = (s.bin b).current ∧
        (t.bin b).stack.map Sheet.unmarked = (s.bin b).stack.map Sheet.unmarked ∧
        (t.gate b).lead = (s.gate b).lead.filter (·.opened) ∧ (t.gate b).follow = (s.gate b).follow.filter (·.opened) ∧
        t.counters = (s.bump .missedDrops).counters ∧
        t.tracker = { s.tracker with queue := s.tracker.queue.map fun r =>
          if r.store ∈ (s.gate b).unopened then { r with disp := .runout .cancelled } else r } ∧
        (∀ p : Port, (t.port p).flags.getLsbD 10 = true ∧ (t.port p).seen.getLsbD 10 = false) ∧
        (∀ b' : BinId, b' ≠ b → (s.bin b').RoundFrame (t.bin b') ∧ t.gate b' = s.gate b') ∧
        ∃ u : State, t = u.searchRound.takeConditions s ∧
          u = (((s.cancelGate b).bump .missedDrops).raiseAll .missedDrop).setBin b { s.bin b with
            inFlight := front ++ behind, questioned := some ⟨x.sheet, (s.bin b).stack.length⟩, state := .check
            resume := if (s.bin b).state = .service then some .service else some .drain }) ∧
    ((s.bin b).state = .check →
      ∃ t, exec (.windowExpiry b x.sheet.store) s = .next t ∧ (t.bin b).state = .lockout ∧
        (t.bin b).questioned = none ∧ (t.bin b).stray = false ∧ (t.bin b).resume = none ∧
        (t.bin b).uncertain = true ∧ (t.bin b).inFlight = [] ∧ (t.bin b).claim = none ∧
        (t.bin b).stack.map Sheet.unmarked = (s.bin b).stack.map Sheet.unmarked ∧
        (t.gate b).lead = (s.gate b).lead.filter (·.opened) ∧ (t.gate b).follow = (s.gate b).follow.filter (·.opened) ∧
        t.tracker = { s.tracker with queue := s.tracker.queue.map fun r =>
          if r.store ∈ (s.gate b).unopened then { r with disp := .runout .cancelled } else r } ∧
        (∀ b' : BinId, b' ≠ b → (s.bin b').RoundFrame (t.bin b')) ∧
        t.counters = ((s.bump .missedDrops).bumpBy .questionedDiscarded
          (bit (s.bin b).questioned.isSome + (s.bin b).inFlight.length)).counters ∧
        (∀ p : Port, (t.port p).flags.getLsbD 10 = true ∧ (t.port p).seen.getLsbD 10 = false) ∧
        (∀ b' : BinId, t.gate b' = (s.cancelGate b).gate b') ∧
        ∃ u : State, t = u.searchRound.takeConditions s ∧
          u = (((((s.cancelGate b).bump .missedDrops).bumpBy .questionedDiscarded
            (bit (s.bin b).questioned.isSome + (s.bin b).inFlight.length)).raiseAll .missedDrop).setBin b { s.bin b with
              state := .lockout, questioned := none, inFlight := [], resume := none, stray := false, uncertain := true
              claim := none }).floatRelease b)

/-- BIN RESOLVE on a bin in CHECK (R106 to R108): LANDED inserts the questioned record at its position, LOST discards it,
CLEAR clears the stray mark; the bin returns to its resume state and the reply gives its summary. A bin in another state is
refused WRONG_STATE, and a form that does not fit the doubt BAD_ARG, as is, before either, a payload that is not two bytes, a
bin number outside 1 to 16 or a form above 2. One search round follows (R105). That there is one for an
insertion with its change of state, that the summary is the one after the round, and that each of the three rows answers any
form by the frame's own form byte, are the model's readings (notes/assumptions/9.md, notes/assumptions/11.md,
notes/assumptions/19.md). -/
def Obligations.BinResolve : Prop :=
  ∀ (p : Port) (f : Frame) (s : State), s.asks p 0x28 f →
    (f.payload.length ≠ 2 ∨
        (∃ n x : Byte, f.payload = [n, x] ∧ (n = 0 ∨ 16 < n.toNat ∨ 2 < x.toNat)) →
      exec (.resolveLanded p f) s = .next (s.answer p ⟨.badArg, []⟩) ∧
      exec (.resolveLost p f) s = .next (s.answer p ⟨.badArg, []⟩) ∧
      exec (.resolveClear p f) s = .next (s.answer p ⟨.badArg, []⟩)) ∧
    ∀ b : BinId,
    (∀ x : Byte, f.payload = [u8 (binNumber b), x] → x.toNat ≤ 2 → (s.bin b).state ≠ .check →
      exec (.resolveLanded p f) s = .next (s.answer p ⟨.wrongState, []⟩) ∧
      exec (.resolveLost p f) s = .next (s.answer p ⟨.wrongState, []⟩) ∧
      exec (.resolveClear p f) s = .next (s.answer p ⟨.wrongState, []⟩)) ∧
    ((s.bin b).state = .check →
      ((s.bin b).questioned = none →
        (f.payload = [u8 (binNumber b), 0] → exec (.resolveLanded p f) s = .next (s.answer p ⟨.badArg, []⟩)) ∧
        (f.payload = [u8 (binNumber b), 1] → exec (.resolveLost p f) s = .next (s.answer p ⟨.badArg, []⟩))) ∧
      ((s.bin b).stray = false → f.payload = [u8 (binNumber b), 2] →
        exec (.resolveClear p f) s = .next (s.answer p ⟨.badArg, []⟩)) ∧
      ∀ z : ResumeState, (s.bin b).resume = some z →
        (∀ q, (s.bin b).questioned = some q →
          (f.payload = [u8 (binNumber b), 0] →
            ∃ t u : State, exec (.resolveLanded p f) s = .next (t.answer p ⟨.ok, t.summary b⟩) ∧
              u = (s.setBin b { s.bin b with
                stack := (s.bin b).stack.take q.position ++
                  { q.sheet with held := s.lotHolds.contains q.sheet.lot, reserved := none } ::
                    (s.bin b).stack.drop q.position
                questioned := none, state := z.state, resume := none }).bump .landed ∧
              u.RoundFrame t ∧ t = u.searchRound) ∧
          (f.payload = [u8 (binNumber b), 1] →
            ∃ t u : State, exec (.resolveLost p f) s = .next (t.answer p ⟨.ok, t.summary b⟩) ∧
              u = ((s.setBin b { s.bin b with questioned := none, state := z.state, resume := none }).bump
                .questionedDiscarded).floatRelease b ∧ u.RoundFrame t ∧ t = u.searchRound)) ∧
        ((s.bin b).stray = true → f.payload = [u8 (binNumber b), 2] →
          ∃ t u : State, exec (.resolveClear p f) s = .next (t.answer p ⟨.ok, t.summary b⟩) ∧
            u = s.setBin b { s.bin b with stray := false, state := z.state, resume := none } ∧ u.RoundFrame t ∧
            t = u.searchRound))

/-- The requests that change a bin's state (R109 to R112): BIN DRAIN from SERVICE, BIN SERVICE from DRAIN and from a LOCKOUT
without doubt or records, BIN LOCK with nothing inbound or reserved, each with a search round and the bin's summary; accepted
with no change in the state asked for, and refused WRONG_STATE in every other state; before that BAD_ARG for a payload that is
not one byte or a bin number outside 1 to 16. That the summary is the one after the search round, that BIN LOCK starts one
round for the state and the claim, and that the condition flags are taken once at its end are the model's readings
(notes/assumptions/11.md, notes/assumptions/9.md, notes/assumptions/12.md). -/
def Obligations.BinStateRequests : Prop :=
  ∀ (p : Port) (f : Frame) (s : State),
    (f.payload.length ≠ 1 ∨ (∃ n : Byte, f.payload = [n] ∧ (n = 0 ∨ 16 < n.toNat)) →
      (s.asks p 0x22 f → exec (.binDrain p f) s = .next (s.answer p ⟨.badArg, []⟩)) ∧
      (s.asks p 0x23 f → exec (.binService p f) s = .next (s.answer p ⟨.badArg, []⟩)) ∧
      (s.asks p 0x24 f → exec (.binLock p f) s = .next (s.answer p ⟨.badArg, []⟩))) ∧
    ∀ b : BinId, f.payload = [u8 (binNumber b)] →
    (s.asks p 0x22 f →
      ((s.bin b).state = .service →
        ∃ t u : State, exec (.binDrain p f) s = .next (t.answer p ⟨.ok, t.summary b⟩) ∧
          u = s.setBin b { s.bin b with state := .drain } ∧ u.RoundFrame t ∧ t = u.searchRound) ∧
      ((s.bin b).state = .drain → exec (.binDrain p f) s = .next (s.answer p ⟨.ok, s.summary b⟩)) ∧
      ((s.bin b).state = .check ∨ (s.bin b).state = .lockout ∨ (s.bin b).state = .off →
        exec (.binDrain p f) s = .next (s.answer p ⟨.wrongState, []⟩))) ∧
    (s.asks p 0x23 f →
      ((s.bin b).state = .drain ∨
          (s.bin b).state = .lockout ∧ ((s.bin b).uncertain = false ∨ (s.bin b).stack = []) →
        ∃ t u : State, exec (.binService p f) s = .next (t.answer p ⟨.ok, t.summary b⟩) ∧
          u = s.setBin b { s.bin b with
            state := .service
            uncertain := if (s.bin b).state = .lockout then false else (s.bin b).uncertain } ∧ u.RoundFrame t ∧
          t = u.searchRound) ∧
      ((s.bin b).state = .service → exec (.binService p f) s = .next (s.answer p ⟨.ok, s.summary b⟩)) ∧
      ((s.bin b).state = .check ∨ (s.bin b).state = .off ∨
          (s.bin b).state = .lockout ∧ (s.bin b).uncertain = true ∧ (s.bin b).stack ≠ [] →
        exec (.binService p f) s = .next (s.answer p ⟨.wrongState, []⟩))) ∧
    (s.asks p 0x24 f →
      ((s.bin b).state = .off ∨ (s.bin b).state = .lockout ∨ 0 < s.inbound b ∨
          (∃ x ∈ (s.bin b).stack, x.reserved ≠ none) →
        exec (.binLock p f) s = .next (s.answer p ⟨.wrongState, []⟩)) ∧
      ((s.bin b).state = .service ∨ (s.bin b).state = .drain ∨ (s.bin b).state = .check → s.inbound b = 0 →
        (∀ x ∈ (s.bin b).stack, x.reserved = none) →
        ∃ t : State, exec (.binLock p f) s = .next (t.answer p ⟨.ok, t.summary b⟩) ∧ (t.bin b).state = .lockout ∧
          (t.bin b).claim = none ∧ (t.bin b).resume = none ∧ (t.bin b).stack = (s.bin b).stack ∧
          (t.bin b).questioned = (if (s.bin b).state = .check then none else (s.bin b).questioned) ∧
          (t.bin b).stray = (if (s.bin b).state = .check then false else (s.bin b).stray) ∧
          (t.bin b).uncertain = ((s.bin b).uncertain || (s.bin b).state == .check) ∧
          t.counters = (s.bumpBy .questionedDiscarded
            (bit ((s.bin b).state == .check && (s.bin b).questioned.isSome))).counters ∧
          (∀ b' : BinId, b' ≠ b → (s.bin b').RoundFrame (t.bin b')) ∧ t.tracker = s.tracker ∧ t.gates = s.gates ∧
          ∃ u : State, t = u.searchRound.takeConditions s ∧
            u = ((s.setBin b { s.bin b with
              state := .lockout, resume := none, claim := none
              questioned := if (s.bin b).state = .check then none else (s.bin b).questioned
              stray := if (s.bin b).state = .check then false else (s.bin b).stray
              uncertain := (s.bin b).uncertain || (s.bin b).state == .check }).bumpBy .questionedDiscarded
                (bit ((s.bin b).state == .check && (s.bin b).questioned.isSome))).floatRelease b))

/-- BIN UNLOAD and BIN REMOVE TOP in LOCKOUT (R113, R114): the records leave the top of the stack and are counted, an empty
stack clears the uncertain mark, and FLOAT release follows; refused WRONG_STATE in every other state, and BIN REMOVE TOP of no
record or of more than the stack holds BAD_ARG. A payload of another length or a bin number outside 1 to 16 is refused BAD_ARG
before that (R109). -/
def Obligations.BinRemovals : Prop :=
  ∀ (p : Port) (f : Frame) (s : State),
    (s.asks p 0x26 f → f.payload.length ≠ 1 ∨ (∃ n : Byte, f.payload = [n] ∧ (n = 0 ∨ 16 < n.toNat)) →
      exec (.binUnload p f) s = .next (s.answer p ⟨.badArg, []⟩)) ∧
    (s.asks p 0x27 f → f.payload.length ≠ 2 ∨ (∃ n m : Byte, f.payload = [n, m] ∧ (n = 0 ∨ 16 < n.toNat)) →
      exec (.binRemoveTop p f) s = .next (s.answer p ⟨.badArg, []⟩)) ∧
    ∀ b : BinId,
    (s.asks p 0x26 f → f.payload = [u8 (binNumber b)] →
      ((s.bin b).state ≠ .lockout → exec (.binUnload p f) s = .next (s.answer p ⟨.wrongState, []⟩)) ∧
      ((s.bin b).state = .lockout →
        ∃ t : State, exec (.binUnload p f) s =
            .next (t.answer p ⟨.ok, u8 (s.bin b).stack.length :: t.summary b⟩) ∧
          t = ((s.setBin b { s.bin b with stack := [], uncertain := false }).bumpBy .unloaded
            (s.bin b).stack.length).floatRelease b)) ∧
    (∀ n : Byte, s.asks p 0x27 f → f.payload = [u8 (binNumber b), n] →
      ((s.bin b).state ≠ .lockout → exec (.binRemoveTop p f) s = .next (s.answer p ⟨.wrongState, []⟩)) ∧
      ((s.bin b).state = .lockout →
        (n.toNat = 0 ∨ (s.bin b).stack.length < n.toNat →
          exec (.binRemoveTop p f) s = .next (s.answer p ⟨.badArg, []⟩)) ∧
        (∀ kept top, (s.bin b).stack = kept ++ top → top.length = n.toNat → top ≠ [] →
          ∃ t : State, exec (.binRemoveTop p f) s = .next (t.answer p ⟨.ok, t.summary b⟩) ∧
            t = ((s.setBin b { s.bin b with
              stack := kept, uncertain := (s.bin b).uncertain && !kept.isEmpty }).bumpBy .unloaded
              n.toNat).floatRelease b)))

/-- LOT HOLD and LOT RELEASE (R117, R118): the lot joins or leaves the list, and the HELD mark of every stack record of the
lot is set or cleared; the reply counts them, and a release that clears a mark is followed by a search round. A lot held already, a
full list, a lot not held and a payload that is not two bytes are answered as the rules give. -/
def Obligations.LotHoldAndRelease : Prop :=
  ∀ (p : Port) (f : Frame) (s : State),
    (f.payload.length ≠ 2 →
      (s.asks p 0x30 f → exec (.lotHold p f) s = .next (s.answer p ⟨.badArg, []⟩)) ∧
      (s.asks p 0x31 f → exec (.lotRelease p f) s = .next (s.answer p ⟨.badArg, []⟩))) ∧
    ∀ lot : LotNo, f.payload = be16 lot.toNat →
    (s.asks p 0x30 f →
      (lot ∈ s.lotHolds → exec (.lotHold p f) s = .next (s.answer p ⟨.ok, [0, 0]⟩)) ∧
      (lot ∉ s.lotHolds → 8 ≤ s.lotHolds.length → exec (.lotHold p f) s = .next (s.answer p ⟨.full, []⟩)) ∧
      (lot ∉ s.lotHolds → s.lotHolds.length < 8 →
        ∃ t : State, exec (.lotHold p f) s =
            .next (t.answer p ⟨.ok, be16 (binsInOrder.map fun b => (s.bin b).stack.countP (·.lot == lot)).sum⟩) ∧
          t = { s with lotHolds := s.lotHolds ++ [lot], bins := t.bins } ∧
          ∀ b, t.bin b = { s.bin b with
            stack := (s.bin b).stack.map fun x => { x with held := if x.lot = lot then true else x.held } })) ∧
    (s.asks p 0x31 f →
      (lot ∉ s.lotHolds → exec (.lotRelease p f) s = .next (s.answer p ⟨.badArg, []⟩)) ∧
      (lot ∈ s.lotHolds →
        ∃ t u : State, exec (.lotRelease p f) s =
            .next (t.answer p ⟨.ok,
              be16 (binsInOrder.map fun b => (s.bin b).stack.countP fun x => x.lot == lot && x.held).sum⟩) ∧
          u = { s with lotHolds := s.lotHolds.filter (· ≠ lot), bins := u.bins } ∧
          (∀ b, u.bin b = { s.bin b with
            stack := (s.bin b).stack.map fun x => { x with held := if x.lot = lot then false else x.held } }) ∧
          u.RoundFrame t ∧
          ((∃ b, ∃ x ∈ (s.bin b).stack, x.lot = lot ∧ x.held = true) → t = u.searchRound) ∧
          (¬(∃ b, ∃ x ∈ (s.bin b).stack, x.lot = lot ∧ x.held = true) → t = u)))

/-! ## Recipes, calls and the Draw Arbiter -/

/-- RECIPE LOAD of an admitted recipe (R126, R127): it joins the queue as sent, with the position set to 1 when the queue was
empty; a queue of two is refused FULL with RECIPE_OVERFLOW on the port; a recipe the checks refuse is BAD_ARG.
The checks of R126 on a recipe's payload, ply by ply; the same checks stand for the ply of a PATCH CALL (R162).
FEEDER SETUP (R134, R135): with the call idle and the patch slot empty the settings are stored, the group size and the
wait timeout clamped; refused BUSY otherwise, and BAD_ARG for another mode byte or a payload that is not three bytes. -/
def Obligations.RecipeLoadAndFeederSetup : Prop :=
  (∀ (g : Feeder) (f : Frame) (s : State), s.asks (.feeder g) 0x40 f →
      (recipeOf f.payload = none →
        exec (.recipeLoad (.feeder g) f) s = .next (s.answer (.feeder g) ⟨.badArg, []⟩)) ∧
      ∀ x : Recipe, recipeOf f.payload = some x →
        x.bytes = f.payload ∧ 1 ≤ x.plies.length ∧ x.plies.length ≤ 15 ∧
        (2 ≤ (s.feeder g).recipes.length →
          exec (.recipeLoad (.feeder g) f) s =
            .next ((s.raise (.feeder g) .recipeOverflow).answer (.feeder g) ⟨.full, []⟩)) ∧
        ((s.feeder g).recipes = [] →
          exec (.recipeLoad (.feeder g) f) s =
            .next ((s.setFeeder g { s.feeder g with recipes := [x], position := some 1 }).answer (.feeder g)
              ⟨.ok, [1, 1]⟩)) ∧
        (∀ head n, (s.feeder g).recipes = [head] → (s.feeder g).position = some n →
          exec (.recipeLoad (.feeder g) f) s =
            .next ((s.setFeeder g { s.feeder g with recipes := [head, x] }).answer (.feeder g) ⟨.ok, [2, u8 n]⟩))) ∧
  (∀ l : List Byte,
      (recipeOf l = none ↔ byteAt l 2 = 0 ∨ 15 < byteAt l 2 ∨ l.length ≠ 3 + 6 * byteAt l 2 ∨
        ∃ k < byteAt l 2, plySpecAt l (3 + 6 * k) = none) ∧
      ∀ i : Nat, plySpecAt l i = none ↔
        byteAt l i = 0xFF ∨ byteAt l (i + 1) = 0xFF ∧ byteAt l (i + 2) ≠ 0xFF ∨
        (∃ j < 3, 5 < byteAt l (i + j) ∧ byteAt l (i + j) ≠ 0xFF) ∨
        byteAt l i = byteAt l (i + 1) ∨ byteAt l i = byteAt l (i + 2) ∨
        (byteAt l (i + 1) = byteAt l (i + 2) ∧ byteAt l (i + 1) ≠ 0xFF) ∨ 3 < byteAt l (i + 3) ∨ nat16At l (i + 4) = 0) ∧
  (∀ (g : Feeder) (f : Frame) (s : State), s.asks (.feeder g) 0x42 f →
      (f.payload.length ≠ 3 → exec (.feederSetup (.feeder g) f) s = .next (s.answer (.feeder g) ⟨.badArg, []⟩)) ∧
      ∀ size mode timeout : Byte, f.payload = [size, mode, timeout] →
      (1 < mode.toNat → exec (.feederSetup (.feeder g) f) s = .next (s.answer (.feeder g) ⟨.badArg, []⟩)) ∧
      (mode.toNat ≤ 1 →
        ((s.feeder g).unserved ≠ [] ∨ (s.feeder g).grants ≠ [] ∨ (s.feeder g).patch ≠ .empty →
          exec (.feederSetup (.feeder g) f) s = .next (s.answer (.feeder g) ⟨.busy, []⟩)) ∧
        ((s.feeder g).unserved = [] → (s.feeder g).grants = [] → (s.feeder g).patch = .empty →
          exec (.feederSetup (.feeder g) f) s =
            .next ((s.setFeeder g { s.feeder g with
              groupSize := max 1 (min 4 size.toNat), timeout := max 1 (min 60 timeout.toNat)
              mode := if mode = 0 then .runOut else .repeating }).answer (.feeder g)
              ⟨if 1 ≤ size.toNat ∧ size.toNat ≤ 4 ∧ 1 ≤ timeout.toNat ∧ timeout.toNat ≤ 60 then .ok else .clamped,
                [u8 (max 1 (min 4 size.toNat)), mode, u8 (max 1 (min 60 timeout.toNat))]⟩))))

/-- PLY CALL (R142, R143, R128): with the call idle the plies of the head recipe from the position on, at most the group
size, become the unserved list, and a search round follows with this feeder taken first (R153); BUSY otherwise, NO_RECIPE with
an empty queue. -/
def Obligations.PlyCall : Prop :=
  ∀ (g : Feeder) (f : Frame) (s : State), s.asks (.feeder g) 0x43 f →
    (f.payload ≠ [] → exec (.plyCall (.feeder g) f) s = .next (s.answer (.feeder g) ⟨.badArg, []⟩)) ∧
    (f.payload = [] →
      ((s.feeder g).unserved ≠ [] ∨ (s.feeder g).grants ≠ [] →
        exec (.plyCall (.feeder g) f) s = .next (s.answer (.feeder g) ⟨.busy, []⟩)) ∧
      ((s.feeder g).unserved = [] → (s.feeder g).grants = [] →
        ((s.feeder g).recipes = [] →
          exec (.plyCall (.feeder g) f) s = .next (s.answer (.feeder g) ⟨.noRecipe, []⟩)) ∧
        ∀ head later n, (s.feeder g).recipes = head :: later → (s.feeder g).position = some n → 1 ≤ n →
          n ≤ head.plies.length →
          ∃ group : List PlyEntry, exec (.plyCall (.feeder g) f) s =
              .next (((s.setFeeder g { s.feeder g with unserved := group }).searchRoundBy g).answer (.feeder g)
                ⟨.ok, be16 head.number.toNat ++ [u8 n, u8 group.length]⟩) ∧
            group.length = min (s.feeder g).groupSize (head.plies.length - n + 1) ∧
            ∀ k e, group[k]? = some e → head.plies[n - 1 + k]? = some e.spec ∧ e.reServed = false ∧
              e.origin = .call head.number (n + k)))

/-- PATCH CALL (R162, R161): an admitted ply takes the empty patch slot, a waiting ply of the feeder is set aside with its
claim cleared, and a search round follows with this feeder taken first (R153); a slot in use is refused BUSY, a ply the checks
of R126 refuse BAD_ARG. -/
def Obligations.PatchCall : Prop :=
  ∀ (g : Feeder) (f : Frame) (s : State), s.asks (.feeder g) 0x44 f →
    (f.payload.length ≠ 6 ∨ plySpecAt f.payload 0 = none →
      exec (.patchCall (.feeder g) f) s = .next (s.answer (.feeder g) ⟨.badArg, []⟩)) ∧
    ∀ spec, f.payload.length = 6 → plySpecAt f.payload 0 = some spec → spec.bytes = f.payload ∧
      ((s.feeder g).patch ≠ .empty →
        exec (.patchCall (.feeder g) f) s = .next (s.answer (.feeder g) ⟨.busy, []⟩)) ∧
      ((s.feeder g).patch = .empty →
        ∃ u : State, exec (.patchCall (.feeder g) f) s = .next ((u.searchRoundBy g).answer (.feeder g) ⟨.ok, []⟩) ∧
          u = { s with bins := u.bins, feeders := u.feeders } ∧
          u.feeder g = { s.feeder g with patch := .unserved ⟨spec, .patch, false⟩, waiting := none } ∧
          u.feeder g.other = s.feeder g.other ∧
          ∀ b, u.bin b = { s.bin b with
            claim := if (s.feeder g).waiting ≠ none ∧ (s.bin b).claim = some g then none else (s.bin b).claim })

/-- A pick of the record on top of its bin, reserved by the feeder (R158 to R160): the record leaves the stack, its grant is
removed, the pick or the pick loss is counted, FLOAT release and a search round follow, and the reply carries the record. A
lost call ply joins the unserved list behind the plies re-served before it and a lost patch returns to its slot, re-served,
with the waiting ply set aside. The round of PICK FAILED takes this feeder first (R153); that of PICK DONE takes the feeder of
the first turn first, and each request starts one round, by the model's reading of R152 and R153 (notes/assumptions/9.md).
A pick that is refused (R158, R160): NOT_GRANTED when no stack record of the number is reserved by the feeder, ORDER when
the reserved record is not on top, BAD_ARG for another payload length. -/
def Obligations.PicksAcceptedAndRefused : Prop :=
  (∀ (g : Feeder) (f : Frame) (s : State) (n : StoreNo) (b : BinId) (below : List Sheet) (x : Sheet) (kept : PatchSlot),
      f.payload = be16 n.toNat → s.reservedIn g n = some b → (s.bin b).stack = below ++ [x] → x.store = n →
      kept = (match (s.feeder g).patch with
        | .granted e => if e.store = n then .empty else .granted e
        | .unserved e => .unserved e
        | .empty => .empty) →
      (s.asks (.feeder g) 0x45 f →
        ∃ u : State, exec (.pickDone (.feeder g) f) s = .next (u.searchRound.answer (.feeder g) ⟨.ok, x.bytes⟩) ∧
          u = (((s.setBin b { s.bin b with stack := below }).setFeeder g { s.feeder g with
            grants := (s.feeder g).grants.filter (·.store ≠ n), patch := kept }).bump (.picks g)).floatRelease b) ∧
      (∀ e : Grant, s.asks (.feeder g) 0x46 f → (s.feeder g).grantOf n = some e →
        ∃ u : State, exec (.pickFailed (.feeder g) f) s =
            .next ((u.searchRoundBy g).answer (.feeder g) ⟨.ok, x.bytes⟩) ∧
          u = { s with bins := u.bins, feeders := u.feeders, counters := (s.bump (.pickLosses g)).counters } ∧
          (u.bin b = ({ s.bin b with
            stack := below
            claim := if (s.feeder g).waiting ≠ none ∧ (s.bin b).claim = some g then none else (s.bin b).claim } :
              BinRec).floatRelease (s.inbound b)) ∧
          (∀ b' : BinId, b' ≠ b → u.bin b' = { s.bin b' with
            claim := if (s.feeder g).waiting ≠ none ∧ (s.bin b').claim = some g then none else (s.bin b').claim }) ∧
          u.feeder g = { s.feeder g with
            waiting := none, grants := (s.feeder g).grants.filter (·.store ≠ n)
            patch := if e.entry.origin.isPatch then .unserved { e.entry with reServed := true } else kept
            unserved := if e.entry.origin.isPatch then (s.feeder g).unserved
              else (s.feeder g).unserved.takeWhile (·.reServed) ++
                { e.entry with reServed := true } :: (s.feeder g).unserved.dropWhile (·.reServed) } ∧
          u.feeder g.other = s.feeder g.other)) ∧
  (∀ (g : Feeder) (f : Frame) (s : State) (n : StoreNo),
      (s.asks (.feeder g) 0x45 f → f.payload.length ≠ 2 →
        exec (.pickDone (.feeder g) f) s = .next (s.answer (.feeder g) ⟨.badArg, []⟩)) ∧
      (s.asks (.feeder g) 0x46 f → f.payload.length ≠ 2 →
        exec (.pickFailed (.feeder g) f) s = .next (s.answer (.feeder g) ⟨.badArg, []⟩)) ∧
      (f.payload = be16 n.toNat →
        ((∀ b, ∀ x ∈ (s.bin b).stack, x.store = n → x.reserved ≠ some g) →
          (s.asks (.feeder g) 0x45 f →
            exec (.pickDone (.feeder g) f) s = .next (s.answer (.feeder g) ⟨.notGranted, []⟩)) ∧
          (s.asks (.feeder g) 0x46 f →
            exec (.pickFailed (.feeder g) f) s = .next (s.answer (.feeder g) ⟨.notGranted, []⟩))) ∧
        ((∃ b, ∃ x ∈ (s.bin b).stack, x.store = n ∧ x.reserved = some g) →
          (∀ b x, (s.bin b).stack.getLast? = some x → x.store ≠ n) →
          (s.asks (.feeder g) 0x45 f →
            exec (.pickDone (.feeder g) f) s = .next (s.answer (.feeder g) ⟨.order, []⟩)) ∧
          (s.asks (.feeder g) 0x46 f →
            exec (.pickFailed (.feeder g) f) s = .next (s.answer (.feeder g) ⟨.order, []⟩)))))

/-- FEEDER STOP (R167, R136): the feeder's plies, patch, grants, wait and claim go, its recipe queue is flushed by its mode,
the reservations of its grants are cleared, its port is sent CALL END STOPPED, once more for a patch, and a search round
follows; the reply counts the grants released and the plies cancelled. The other feeder is untouched before the round, which
takes the feeder of the first turn first by the model's reading of R152 and R153 (notes/assumptions/9.md). -/
def Obligations.FeederStop : Prop :=
  ∀ (g : Feeder) (f : Frame) (s : State), s.asks (.feeder g) 0x47 f →
    (f.payload ≠ [] → exec (.feederStop (.feeder g) f) s = .next (s.answer (.feeder g) ⟨.badArg, []⟩)) ∧
    (f.payload = [] →
      ∃ u v : State, exec (.feederStop (.feeder g) f) s =
          .next (u.searchRound.answer (.feeder g) ⟨.ok, [u8 (s.feeder g).allGrants.length,
            u8 ((s.feeder g).unserved.length + bit (s.feeder g).patch.ply.isSome)]⟩) ∧
        u = { s with bins := u.bins, feeders := u.feeders, ports := u.ports } ∧
        u.feeder g = { s.feeder g with
          unserved := [], grants := [], patch := .empty, waiting := none
          recipes := match (s.feeder g).mode with
            | .repeating => (s.feeder g).recipes.take 1
            | .runOut => []
          position := match (s.feeder g).mode, (s.feeder g).recipes with
            | .repeating, _ :: _ => some 1
            | .repeating, [] => none
            | .runOut, _ => none } ∧
        u.feeder g.other = s.feeder g.other ∧
        (∀ b, u.bin b = { s.bin b with
          claim := if (s.bin b).claim = some g then none else (s.bin b).claim
          stack := (s.bin b).stack.map fun x =>
            if (s.feeder g).allGrants.any (fun e => e.bin == b && e.store == x.store) then { x with reserved := none }
            else x }) ∧
        v = s.send (.feeder g) (.callEnd .stopped false false (s.feeder g).grants.length 0 0) ∧
        u.ports = (if (s.feeder g).patch = .empty then v
          else v.send (.feeder g) (.callEnd .stopped true false (bit (s.feeder g).patch.grant.isSome) 0 0)).ports)

/-- The timeout of a waiting ply (R156, R198): the claim is cleared and SHORTAGE set and counted; for a call ply the unserved
list is dropped, for a patch its slot emptied; CALL END SHORT goes to the port. After a patch's timeout a search round takes
this feeder first (R153, R156). A call's timeout starts a round when it cleared a claim, the feeder of the first turn taken
first, and none otherwise, by the model's reading of R152 and R153 (notes/assumptions/9.md). -/
def Obligations.WaitExpiry : Prop :=
  ∀ (g : Feeder) (s : State) (w : Wait) (e : PlyEntry), (s.feeder g).waiting = some w → (s.feeder g).front = some e →
    w.expiry ≤ s.now →
    ∃ t u : State, exec (.waitExpiry g) s = .next t ∧
      u = { s with
        bins := u.bins, feeders := u.feeders, ports := u.ports, counters := (s.bump (.shortages g)).counters } ∧
      (∀ b, u.bin b = { s.bin b with claim := if (s.bin b).claim = some g then none else (s.bin b).claim }) ∧
      u.feeder g.other = s.feeder g.other ∧
      (e.origin.isPatch = false → u.feeder g = { s.feeder g with unserved := [], waiting := none } ∧
        u.ports = ((s.send (.feeder g) (.callEnd .short false e.reServed (s.feeder g).grants.length e.origin.recipe
          e.origin.ply)).raise (.feeder g) .shortage).ports ∧
        ((∃ b, (s.bin b).claim = some g) → t = u.searchRound) ∧ ((∀ b, (s.bin b).claim ≠ some g) → t = u)) ∧
      (e.origin.isPatch = true → u.feeder g = { s.feeder g with patch := .empty, waiting := none } ∧
        u.ports = ((s.send (.feeder g) (.callEnd .short true false (s.feeder g).grants.length 0 0)).raise (.feeder g)
          .shortage).ports ∧ t = u.searchRoundBy g)

/-- The bin a front ply is granted from (R144 to R146): eligible, with its effective top matching the ply, and every other
eligible bin behind it by the place of its class in the ply's list, then by the greater stack, then by the higher number. -/
def Obligations.BestEligibleBin : Prop :=
  ∀ (s : State) (g : Feeder) (spec : PlySpec),
    (∀ b x, s.eligible g spec b = some x ↔
      ((s.bin b).state = .service ∨ (s.bin b).state = .drain) ∧ s.inbound b = 0 ∧
        ((s.bin b).claim = none ∨ (s.bin b).claim = some g) ∧
        (∀ y ∈ (s.bin b).stack, y.reserved ≠ some g.other) ∧
        (∃ below above, (s.bin b).stack = below ++ x :: above ∧ (∀ y ∈ above, y.reserved = some g) ∧
          x.reserved = none) ∧
        x.cls ∈ spec.classes ∧ (spec.width = none ∨ spec.width = some x.width) ∧
        spec.species.getLsbD x.species = true ∧ x.held = false) ∧
    (s.bestBin spec (s.eligible g spec) = none ↔ ∀ b, s.eligible g spec b = none) ∧
    ∀ c, s.bestBin spec (s.eligible g spec) = some c → s.eligible g spec c.bin = some c.sheet ∧
      ∀ b x, b ≠ c.bin → s.eligible g spec b = some x →
        spec.classes.idxOf c.sheet.cls < spec.classes.idxOf x.cls ∨
        spec.classes.idxOf c.sheet.cls = spec.classes.idxOf x.cls ∧
          ((s.bin c.bin).stack.length < (s.bin b).stack.length ∨
            (s.bin c.bin).stack.length = (s.bin b).stack.length ∧ c.bin < b)

/-- A feeder taken in a search round (R147, R149, R153, R154): without a front ply it is passed over. With an eligible bin
its front ply is granted from the best one: the record reserved, the wait ended with its claim, a GRANT outcome, and the first
turn passed on. A regular ply advances the recipe position, and the head's last ply consumes the recipe, with RECIPE CONSUMED
(R129 to R131); a re-served ply and a patch leave the recipe. CALL END COMPLETE follows for a patch, and for a call ply when
no ply is left, with the call grants outstanding (R155). Without an eligible bin it waits, with its full timeout when the wait
is new and its expiry kept when it is not; the target is the best blocked candidate, an old target staying while it is one or
is in CHECK, else left with its claim; and the target is claimed when it is unclaimed. The turn counts as one that changed
something when a grant was made or a wait begun, and, for a feeder that claims nothing but its target, when its claim has
changed (R153).
A search round (R152, R153, R141, R151) takes the feeders in turn, from `g` on, or from the feeder of the first turn, each
as above, each turn on what the turn before left, until two turns in a row, one of each feeder, have made no grant, begun no
wait and changed no claim. That it ends at the latest with 200 turns is the model's choice (notes/assumptions/10.md). -/
def Obligations.FrontPlyServed : Prop :=
  (∀ (s : State) (g : Feeder), ((s.feeder g).front = none → s.serveFeeder g = (s, false)) ∧
    ∀ e : PlyEntry, (s.feeder g).front = some e →
      (∀ c, s.bestBin e.spec (s.eligible g e.spec) = some c →
        ∃ t later ended, s.serveFeeder g = (t, true) ∧ t.firstTurn = g.other ∧ (t.feeder g).waiting = none ∧
          s.RoundFrame t ∧ t.feeder g.other = s.feeder g.other ∧ t.port (.feeder g.other) = s.port (.feeder g.other) ∧
          (∀ b, t.bin b = { s.bin b with
            stack := if b = c.bin then (s.bin b).stack.map fun x =>
              if x.store = c.sheet.store then { x with reserved := some g } else x else (s.bin b).stack
            claim := if (s.feeder g).waiting ≠ none ∧ (s.bin b).claim = some g then none else (s.bin b).claim }) ∧
          t.ports = ((OutcomeRec.grant c.sheet.store c.bin c.sheet.cls e.origin e.reServed :: later).foldl
            (fun u o => u.send (.feeder g) o) s).ports ∧
          ((s.port (.feeder g)).outcomes.length ≤ 5 →
            t.port (.feeder g) = { s.port (.feeder g) with
              outcomes := (s.port (.feeder g)).outcomes ++
                .grant c.sheet.store c.bin c.sheet.cls e.origin e.reServed :: later }) ∧
          (e.origin.isPatch = true →
            t.feeder g = { s.feeder g with patch := .granted ⟨e, c.bin, c.sheet.store⟩, waiting := none } ∧
              later = [.callEnd .complete true false 1 0 0]) ∧
          (e.origin.isPatch = false →
            ended = (if (s.feeder g).unserved.tail = [] then
              [.callEnd .complete false false ((s.feeder g).grants.length + 1) 0 0] else []) ∧
            t.feeder g = { s.feeder g with
              grants := (s.feeder g).grants ++ [⟨e, c.bin, c.sheet.store⟩], unserved := (s.feeder g).unserved.tail
              waiting := none, recipes := (t.feeder g).recipes, position := (t.feeder g).position } ∧
            (e.reServed = true → (t.feeder g).recipes = (s.feeder g).recipes ∧
              (t.feeder g).position = (s.feeder g).position ∧ later = ended) ∧
            (e.reServed = false → ∀ head rest n, (s.feeder g).recipes = head :: rest → (s.feeder g).position = some n →
              (n < head.plies.length → (t.feeder g).recipes = head :: rest ∧ (t.feeder g).position = some (n + 1) ∧
                later = ended) ∧
              (head.plies.length ≤ n →
                (∀ second more, rest = second :: more → (t.feeder g).recipes = rest ∧ (t.feeder g).position = some 1 ∧
                  later = .recipeConsumed head.number .next rest.length second.number :: ended) ∧
                (rest = [] → (s.feeder g).mode = .repeating → (t.feeder g).recipes = [head] ∧
                  (t.feeder g).position = some 1 ∧
                  later = .recipeConsumed head.number .repeated 1 head.number :: ended) ∧
                (rest = [] → (s.feeder g).mode = .runOut → (t.feeder g).recipes = [] ∧ (t.feeder g).position = none ∧
                  later = .recipeConsumed head.number .empty 0 0 :: ended))))) ∧
      (s.bestBin e.spec (s.eligible g e.spec) = none →
        ∃ (t : State) (changed : Bool) (w : Wait) (left : Prop) (claim : BinId → Option Feeder),
          s.serveFeeder g = (t, changed) ∧ t = { s with bins := t.bins, feeders := t.feeders } ∧
          t.feeder g = { s.feeder g with waiting := some w } ∧ t.feeder g.other = s.feeder g.other ∧
          (∀ b, t.bin b = { s.bin b with claim := if w.target = some b ∧ claim b = none then some g else claim b }) ∧
          (∀ b, (left ∧ (s.bin b).claim = some g → claim b = none) ∧
            (¬(left ∧ (s.bin b).claim = some g) → claim b = (s.bin b).claim)) ∧
          ((s.feeder g).waiting = none → changed = true ∧ ¬left ∧ w.expiry = s.now + (s.feeder g).timeout * 1000 ∧
            s.BestBlocked g e.spec w.target) ∧
          ∀ old, (s.feeder g).waiting = some old → w.expiry = old.expiry ∧
            (left ↔ ¬∃ b, old.target = some b ∧ ((∃ x, s.BlockedBin g e.spec b x) ∨ (s.bin b).state = .check)) ∧
            (¬left → w.target = old.target) ∧ (left → s.BestBlocked g e.spec w.target) ∧
            ((∀ b, (s.bin b).claim = some g → old.target = some b) →
              (changed = true ↔ ∃ b, ¬((s.bin b).claim = some g ↔ (t.bin b).claim = some g))))) ∧
  (∀ (s : State) (g : Feeder), s.searchRound = s.searchRoundBy s.firstTurn ∧ s.RoundFrame (s.searchRoundBy g) ∧
      ∃ (run : Nat → State) (turn : Nat → Feeder) (quiet : Nat → Prop) (n : Nat),
        run 0 = s ∧ (∀ k, turn k = if k % 2 = 0 then g else g.other) ∧
        (∀ k, run (k + 1) = ((run k).serveFeeder (turn k)).1) ∧
        (∀ k, quiet k ↔ ((run k).serveFeeder (turn k)).2 = false) ∧ s.searchRoundBy g = run n ∧ n ≤ 200 ∧
        (∀ k, k + 2 < n → ¬(quiet k ∧ quiet (k + 1))) ∧ (n = 200 ∨ 2 ≤ n ∧ quiet (n - 2) ∧ quiet (n - 1)))

/-! ## Line layout and operating modes -/

/-- LAYOUT WRITE (R172, R173): in SETUP the group's fields join the pending copy, each clamped on its own, the other fields
kept; CLAMPED in the reply when a field was. In RUN it is refused WRONG_STATE, and a payload that is no group with its fields
BAD_ARG in both modes. -/
def Obligations.LayoutWrite : Prop :=
  ∀ (p : Port) (f : Frame) (s : State), s.asks p 0x18 f →
    (f.payload = [] ∨ (∃ g rest, f.payload = g :: rest ∧
        (16 < g.toNat ∨ g = 0 ∧ rest.length ≠ 17 ∨ g ≠ 0 ∧ rest.length ≠ 5)) →
      exec (.layoutWrite p f) s = .next (s.answer p ⟨.badArg, []⟩)) ∧
    (∀ (lanes divide tol qLow qHigh nLost nBack : Byte) (q a t e w : BitVec 16),
      f.payload = 0 :: lanes :: divide :: (be16 q.toNat ++ be16 a.toNat ++ be16 t.toNat ++ be16 e.toNat ++ [tol] ++
        be16 w.toNat ++ [qLow, qHigh, nLost, nBack]) →
      (s.mode = .run → exec (.layoutWrite p f) s = .next (s.answer p ⟨.wrongState, []⟩)) ∧
      (s.mode = .setup →
        ∃ kept : Layout, kept = { s.pendingLayout with
            laneCount := max 1 (min 8 lanes.toNat)
            divide := if divide.toNat ≤ 1 then 1 else if divide.toNat ≤ 3 then 2 else if divide.toNat ≤ 7 then 4 else 8
            decision := max 3200 (min 27000 q.toNat), lead := min 400 a.toNat, tail := min 400 t.toNat
            lineEnd := max 4000 (min 29000 e.toNat), tolerance := min 100 tol.toNat
            window := max 50 (min 2000 w.toNat), qLow := qLow.toNat, qHigh := qHigh.toNat
            nLost := max 1 (min 15 nLost.toNat), nBack := max 1 (min 63 nBack.toNat) } ∧
          exec (.layoutWrite p f) s =
            .next (({ s with pendingLayout := kept } : State).answer p
              ⟨if 1 ≤ lanes.toNat ∧ lanes.toNat ≤ 8 ∧
                  (divide.toNat = 1 ∨ divide.toNat = 2 ∨ divide.toNat = 4 ∨ divide.toNat = 8) ∧ 3200 ≤ q.toNat ∧
                  q.toNat ≤ 27000 ∧ a.toNat ≤ 400 ∧ t.toNat ≤ 400 ∧ 4000 ≤ e.toNat ∧ e.toNat ≤ 29000 ∧
                  tol.toNat ≤ 100 ∧ 50 ≤ w.toNat ∧ w.toNat ≤ 2000 ∧ 1 ≤ nLost.toNat ∧ nLost.toNat ≤ 15 ∧
                  1 ≤ nBack.toNat ∧ nBack.toNat ≤ 63 then .ok else .clamped,
                0 :: kept.lineBytes⟩))) ∧
    ∀ (b : BinId) (fitted capacity mode : Byte) (g : BitVec 16),
      f.payload = u8 (binNumber b) :: fitted :: (be16 g.toNat ++ [capacity, mode]) →
      (1 < fitted.toNat ∨ 7 < mode.toNat ∧ mode ≠ 0xFF →
        exec (.layoutWrite p f) s = .next (s.answer p ⟨.badArg, []⟩)) ∧
      (fitted.toNat ≤ 1 → mode.toNat ≤ 7 ∨ mode = 0xFF →
        (s.mode = .run → exec (.layoutWrite p f) s = .next (s.answer p ⟨.wrongState, []⟩)) ∧
        (s.mode = .setup →
          ∃ kept : BinLayout, kept.fitted = (fitted == 1) ∧ kept.gate = max 3500 (min 28000 g.toNat) ∧
            kept.capacity = max 10 (min 200 capacity.toNat) ∧
            (mode = 0xFF → kept.fixedClass = none) ∧
            (mode ≠ 0xFF → ∃ c : GradeClass, kept.fixedClass = some c ∧ c.code = mode.toNat) ∧
            exec (.layoutWrite p f) s =
              .next (({ s with pendingLayout := { s.pendingLayout with
                  bins := s.pendingLayout.bins.set b kept } } : State).answer p
                ⟨if 3500 ≤ g.toNat ∧ g.toNat ≤ 28000 ∧ 10 ≤ capacity.toNat ∧ capacity.toNat ≤ 200 then .ok
                  else .clamped,
                  u8 (binNumber b) :: kept.bytes⟩)))

/-- The validation of ENTER RUN (R176): the first failing check, with the group and the field it names, and none exactly when
every check passes for the line and for every bin. -/
def Obligations.LayoutValidation : Prop :=
  ∀ s : State,
    (s.pendingLayout.qHigh ≤ s.pendingLayout.qLow → s.layoutFault = some ⟨1, 0, 9⟩) ∧
    (s.pendingLayout.qLow < s.pendingLayout.qHigh → s.pendingLayout.lineEnd ≤ s.pendingLayout.decision →
      s.layoutFault = some ⟨2, 0, 5⟩) ∧
    (s.layoutFault = none ↔
      s.pendingLayout.qLow < s.pendingLayout.qHigh ∧ s.pendingLayout.decision < s.pendingLayout.lineEnd ∧
        ∀ b : BinId,
          (s.pendingLayout.bins[b].fitted = true →
            s.pendingLayout.decision + s.pendingLayout.lead ≤ s.pendingLayout.bins[b].gate ∧
              s.pendingLayout.bins[b].gate + s.pendingLayout.tail < s.pendingLayout.lineEnd) ∧
          (s.pendingLayout.bins[b].fitted = false →
            (s.bin b).state = .off ∨ (s.bin b).stack = [] ∧ s.inbound b = 0 ∧ (s.bin b).questioned = none)) ∧
    ∀ x, s.layoutFault = some x → 3 ≤ x.check →
      ∃ b : BinId, x.group = binNumber b ∧ (∀ b' < b, s.binFault b' = none) ∧
        (x.check = 3 ∧ x.field = 1 ∧ s.pendingLayout.bins[b].fitted = true ∧
            s.pendingLayout.bins[b].gate < s.pendingLayout.decision + s.pendingLayout.lead ∨
          x.check = 4 ∧ x.field = 1 ∧ s.pendingLayout.bins[b].fitted = true ∧
            s.pendingLayout.decision + s.pendingLayout.lead ≤ s.pendingLayout.bins[b].gate ∧
            s.pendingLayout.lineEnd ≤ s.pendingLayout.bins[b].gate + s.pendingLayout.tail ∨
          x.check = 5 ∧ x.field = 0 ∧ s.pendingLayout.bins[b].fitted = false ∧ (s.bin b).state ≠ .off ∧
            ((s.bin b).stack ≠ [] ∨ 0 < s.inbound b ∨ (s.bin b).questioned ≠ none))

/-- ENTER RUN and ENTER SETUP (R176, R177, R179, R15, R122): a valid pending layout becomes the active one, with the residue,
the lanes and the bins adjusted to it and the mode RUN; an invalid one is refused INVALID with its failing check, and a
request in RUN WRONG_STATE. One search round follows where a bin's state has changed or a claim was cleared (R105), by the
model's reading (notes/assumptions/9.md). ENTER SETUP changes the mode alone, once nothing is tracked, reported or in grading. -/
def Obligations.EnterRunAndEnterSetup : Prop :=
  ∀ (p : Port) (f : Frame) (s : State),
    (s.asks p 0x1A f →
      (f.payload ≠ [] → exec (.enterRun p f) s = .next (s.answer p ⟨.badArg, []⟩)) ∧
      (f.payload = [] → s.mode = .run → exec (.enterRun p f) s = .next (s.answer p ⟨.wrongState, []⟩)) ∧
      (f.payload = [] → s.mode = .setup →
        (∀ x, s.layoutFault = some x →
          exec (.enterRun p f) s = .next (s.answer p ⟨.invalid, [u8 x.check, u8 x.group, u8 x.field]⟩)) ∧
        (s.layoutFault = none →
          ∃ t u : State, exec (.enterRun p f) s =
              .next (t.answer p ⟨.ok, [u8 (binsInOrder.countP fun b => s.pendingLayout.bins[b].fitted),
                u8 s.pendingLayout.laneCount]⟩) ∧
            t.mode = .run ∧ t.activeLayout = s.pendingLayout ∧ t.pendingLayout = s.pendingLayout ∧
            t.tracker = { s.tracker with
              residue := if s.activeLayout.divide = s.pendingLayout.divide then s.tracker.residue else 0 } ∧
            (∀ i : LaneId,
              (s.pendingLayout.laneCount ≤ i.val → t.lanes[i] = ⟨.good, 0, 0, 0⟩) ∧
              (i.val < s.pendingLayout.laneCount →
                (s.activeLayout.qLow = s.pendingLayout.qLow ∧ s.activeLayout.qHigh = s.pendingLayout.qHigh ∧
                    s.activeLayout.nLost = s.pendingLayout.nLost ∧ s.activeLayout.nBack = s.pendingLayout.nBack →
                  t.lanes[i] = s.lanes[i]) ∧
                (¬(s.activeLayout.qLow = s.pendingLayout.qLow ∧ s.activeLayout.qHigh = s.pendingLayout.qHigh ∧
                    s.activeLayout.nLost = s.pendingLayout.nLost ∧ s.activeLayout.nBack = s.pendingLayout.nBack) →
                  t.lanes[i] = ⟨if s.lanes[i].state = .good ∨ s.lanes[i].state = .suspect then .good else .lost,
                    0, 0, 0⟩))) ∧
            (∀ b : BinId, s.pendingLayout.bins[b].fitted = true →
              (t.bin b).state = (if (s.bin b).state = .off then .service else (s.bin b).state) ∧
              (t.bin b).mode = (if s.pendingLayout.bins[b].fixedClass = none then .float else .fixed) ∧
              (t.bin b).capacity = s.pendingLayout.bins[b].capacity ∧
              (t.bin b).gate = s.pendingLayout.bins[b].gate ∧
              (∀ c, s.pendingLayout.bins[b].fixedClass = some c → (t.bin b).current = some c) ∧
              (s.pendingLayout.bins[b].fixedClass = none →
                (t.bin b).current =
                  if (s.bin b).state ≠ .off ∧
                      ((s.bin b).stack ≠ [] ∨ (s.bin b).inFlight ≠ [] ∨ (s.bin b).questioned ≠ none) then
                    (s.bin b).current
                  else none) ∧
              (t.bin b).stack.map Sheet.unmarked = (s.bin b).stack.map Sheet.unmarked ∧
              (t.bin b).inFlight = (s.bin b).inFlight ∧ (t.bin b).questioned = (s.bin b).questioned ∧
              (t.bin b).stray = (s.bin b).stray ∧ (t.bin b).resume = (s.bin b).resume ∧
              (t.bin b).uncertain = (s.bin b).uncertain) ∧
            (∀ b : BinId, s.pendingLayout.bins[b].fitted = false →
              (t.bin b).state = .off ∧ (t.bin b).mode = .float ∧ (t.bin b).current = none ∧
              (t.bin b).stray = false ∧ (t.bin b).uncertain = false ∧ (t.bin b).claim = none ∧
              (t.bin b).resume = none ∧ (t.bin b).capacity = s.pendingLayout.bins[b].capacity ∧
              (t.bin b).gate = s.pendingLayout.bins[b].gate) ∧
            t.reports = s.reports ∧ t.engine = s.engine ∧ t.rules = s.rules ∧ t.gates = s.gates ∧
            t.lotHolds = s.lotHolds ∧ t.counters = s.counters ∧ t.now = s.now ∧
            u = { s with
              mode := .run, activeLayout := s.pendingLayout, tracker := t.tracker, lanes := t.lanes, bins := u.bins } ∧
            (∀ b : BinId, u.bin b = { t.bin b with
              stack := (s.bin b).stack
              claim := if s.pendingLayout.bins[b].fitted then (s.bin b).claim else none }) ∧
            ((∃ b, (u.bin b).state ≠ (s.bin b).state ∨ (s.bin b).claim ≠ none ∧ (u.bin b).claim = none) →
              t = u.searchRound.takeConditions s) ∧
            (¬(∃ b, (u.bin b).state ≠ (s.bin b).state ∨ (s.bin b).claim ≠ none ∧ (u.bin b).claim = none) →
              t = u.takeConditions s)))) ∧
    (s.asks p 0x1B f →
      (f.payload ≠ [] → exec (.enterSetup p f) s = .next (s.answer p ⟨.badArg, []⟩)) ∧
      (f.payload = [] → s.mode = .setup → exec (.enterSetup p f) s = .next (s.answer p ⟨.ok, []⟩)) ∧
      (f.payload = [] → s.mode = .run →
        (s.tracker.queue ≠ [] ∨ s.reports ≠ [] ∨ s.engine ≠ none →
          exec (.enterSetup p f) s = .next (s.answer p ⟨.wrongState, []⟩)) ∧
        (s.tracker.queue = [] → s.reports = [] → s.engine = none →
          exec (.enterSetup p f) s = .next (({ s with mode := .setup } : State).answer p ⟨.ok, []⟩))))

/-! ## The whole machine -/

/-- What a setting of the part changes at, whatever the command (R171, R175, R63, R116, R134, R206, R16): the active layout at
ENTER RUN alone, the pending layout at LAYOUT WRITE, the mode at ENTER RUN and ENTER SETUP, the fields of the banks at RULE
WRITE, the lot hold list at the lot requests, a feeder's settings at its FEEDER SETUP, a mask at its port's SET MASK, and P
at a forward encoder pulse; and each at device reset. -/
def Obligations.SettingsChangeAtTheirRequestsAlone : Prop :=
  ∀ (c : Instr) (s t : State), exec c s = .next t → (∀ x, c ≠ .deviceReset x) →
    (t.activeLayout ≠ s.activeLayout → ∃ p f, c = .enterRun p f) ∧
    (t.pendingLayout ≠ s.pendingLayout → ∃ p f, c = .layoutWrite p f) ∧
    (t.mode ≠ s.mode → ∃ p f, c = .enterRun p f ∨ c = .enterSetup p f) ∧
    (t.rules.bank0 ≠ s.rules.bank0 ∨ t.rules.bank1 ≠ s.rules.bank1 → ∃ p f, c = .ruleWrite p f) ∧
    (t.lotHolds ≠ s.lotHolds → ∃ p f, c = .lotHold p f ∨ c = .lotRelease p f) ∧
    (∀ g : Feeder, (t.feeder g).groupSize ≠ (s.feeder g).groupSize ∨ (t.feeder g).mode ≠ (s.feeder g).mode ∨
        (t.feeder g).timeout ≠ (s.feeder g).timeout → ∃ f, c = .feederSetup (.feeder g) f) ∧
    (∀ q : Port, (t.port q).mask ≠ (s.port q).mask → ∃ f, c = .setMask q f) ∧
    (t.tracker.pos ≠ s.tracker.pos → c = .encPulse .forward)

/-- No command but CLEAR COUNTERS and device reset lowers a statistics counter that has not passed its saturation value
(R208). -/
def Obligations.CountersOnlyGrow : Prop :=
  ∀ (c : Instr) (s t : State), exec c s = .next t → (∀ x, c ≠ .deviceReset x) → (∀ p f, c ≠ .clearCounters p f) →
    s.CountersBounded → ∀ k : Counter, s.counter k ≤ t.counter k

/-- The state after reset meets every invariant stated below. -/
def Obligations.ResetMeetsTheInvariants : Prop :=
  State.reset.BanksValid ∧ State.reset.SwapWaits ∧ State.reset.SetupQuiet ∧ State.reset.LayoutsSound ∧ State.reset.LanesSound ∧
    State.reset.TravelSound ∧ State.reset.PortsSound ∧ State.reset.QueuesBounded ∧ State.reset.CountersBounded ∧
    State.reset.GatesSound ∧ State.reset.BinsSound ∧ State.reset.FloatsReleased ∧ State.reset.BinsBounded ∧
    State.reset.FeedersSound ∧ State.reset.ClaimsSound ∧ State.reset.StoreNumbersUnique

/-- Every step keeps the active bank, and a standby bank whose exchange is armed, valid under bank validation, and keeps a swap
armed only while a grading is in progress: with the engine IDLE, and so in SETUP, none is armed (R62, R65, R68, R69, R175,
R179). -/
def Obligations.BanksStayValid : Prop :=
  ∀ s t : State, step s = .next t → (s.BanksValid → t.BanksValid) ∧ (s.SwapWaits → t.SwapWaits)

/-- Every step keeps both layouts in range, equal in RUN; SETUP without records, reports and grading; the lane runs short of
their thresholds; and the residue below the divide with the backlash at most 200 (R6, R8, R16, R171, R175). -/
def Obligations.LayoutLanesAndTravelStaySound : Prop :=
  ∀ s t : State, s.LayoutsSound → s.SetupQuiet → s.LanesSound → s.TravelSound → step s = .next t →
    t.LayoutsSound ∧ t.SetupQuiet ∧ t.LanesSound ∧ t.TravelSound

/-- Every step keeps each outcome queue at most eight, each seen mark on a set flag and each flag on the ports that have it;
the tracking, report and lot queues within their depths; and every counter within its saturation value (R4, R21, R116, R199,
R201, R208). -/
def Obligations.PortsQueuesAndCountersStaySound : Prop :=
  ∀ s t : State, step s = .next t →
    (s.PortsSound → t.PortsSound) ∧ (s.QueuesBounded → t.QueuesBounded) ∧ (s.CountersBounded → t.CountersBounded)

/-- Every step keeps each gate's output on exactly while its lead entry is opened, each bin in CHECK exactly while it is in
doubt, a FLOAT bin with no sheet without a class, and each bin's sheets within 200 with at most three inbound (R72, R85, R92,
R93, R95, R115). -/
def Obligations.GatesAndBinsStaySound : Prop :=
  ∀ s t : State, step s = .next t →
    (s.GatesSound → t.GatesSound) ∧ (s.BinsSound → t.BinsSound) ∧ (s.FloatsReleased → t.FloatsReleased) ∧
    (s.LayoutsSound → s.BinsSound → s.BinsBounded → t.BinsBounded)

/-- Every step keeps a feeder's recipe position on a ply of its head recipe, its plies and grants at most four, and each claim
on the target of a waiting ply, so that no feeder claims two bins (R123, R124, R139, R141). -/
def Obligations.FeedersAndClaimsStaySound : Prop :=
  ∀ s t : State, step s = .next t →
    (s.FeedersSound → t.FeedersSound) ∧ (s.ClaimsSound → t.ClaimsSound)

/-- Every step keeps the store numbers of the sheets in the part apart and none of them 0: a number is given only while no
sheet carries it (R20). -/
def Obligations.StoreNumbersStayUnique : Prop :=
  ∀ s t : State, s.StoreNumbersUnique → s.QueuesBounded → s.LayoutsSound → s.BinsSound → s.BinsBounded →
    step s = .next t → t.StoreNumbersUnique
end

