-- ==== Sys2Proof/Laws/State.lean ====
section
/-! SUPPORT. One lemma for each field of State and each update of it, true by unfolding the update, so that no proof
need unfold a record update; and what the accessors read after an update of theirs. -/

namespace Sys2Proof.Machine

open Sys2Proof

variable (s : State)

/-! ## `State.setPort` -/

@[simp] theorem State.setPort_mode (p : Port) (r : PortRec) : (s.setPort p r).mode = s.mode := rfl
@[simp] theorem State.setPort_pendingLayout (p : Port) (r : PortRec) :
    (s.setPort p r).pendingLayout = s.pendingLayout := rfl
@[simp] theorem State.setPort_activeLayout (p : Port) (r : PortRec) :
    (s.setPort p r).activeLayout = s.activeLayout := rfl
@[simp] theorem State.setPort_tracker (p : Port) (r : PortRec) : (s.setPort p r).tracker = s.tracker := rfl
@[simp] theorem State.setPort_reports (p : Port) (r : PortRec) : (s.setPort p r).reports = s.reports := rfl
@[simp] theorem State.setPort_lanes (p : Port) (r : PortRec) : (s.setPort p r).lanes = s.lanes := rfl
@[simp] theorem State.setPort_engine (p : Port) (r : PortRec) : (s.setPort p r).engine = s.engine := rfl
@[simp] theorem State.setPort_rules (p : Port) (r : PortRec) : (s.setPort p r).rules = s.rules := rfl
@[simp] theorem State.setPort_gates (p : Port) (r : PortRec) : (s.setPort p r).gates = s.gates := rfl
@[simp] theorem State.setPort_bins (p : Port) (r : PortRec) : (s.setPort p r).bins = s.bins := rfl
@[simp] theorem State.setPort_lotHolds (p : Port) (r : PortRec) : (s.setPort p r).lotHolds = s.lotHolds := rfl
@[simp] theorem State.setPort_feeders (p : Port) (r : PortRec) : (s.setPort p r).feeders = s.feeders := rfl
@[simp] theorem State.setPort_firstTurn (p : Port) (r : PortRec) : (s.setPort p r).firstTurn = s.firstTurn := rfl
@[simp] theorem State.setPort_counters (p : Port) (r : PortRec) : (s.setPort p r).counters = s.counters := rfl
@[simp] theorem State.setPort_now (p : Port) (r : PortRec) : (s.setPort p r).now = s.now := rfl
@[simp] theorem State.setPort_pending (p : Port) (r : PortRec) : (s.setPort p r).pending = s.pending := rfl

/-! ## `State.setParser` -/

@[simp] theorem State.setParser_mode (p : Port) (x : Parser) : (s.setParser p x).mode = s.mode := rfl
@[simp] theorem State.setParser_pendingLayout (p : Port) (x : Parser) :
    (s.setParser p x).pendingLayout = s.pendingLayout := rfl
@[simp] theorem State.setParser_activeLayout (p : Port) (x : Parser) :
    (s.setParser p x).activeLayout = s.activeLayout := rfl
@[simp] theorem State.setParser_tracker (p : Port) (x : Parser) : (s.setParser p x).tracker = s.tracker := rfl
@[simp] theorem State.setParser_reports (p : Port) (x : Parser) : (s.setParser p x).reports = s.reports := rfl
@[simp] theorem State.setParser_lanes (p : Port) (x : Parser) : (s.setParser p x).lanes = s.lanes := rfl
@[simp] theorem State.setParser_engine (p : Port) (x : Parser) : (s.setParser p x).engine = s.engine := rfl
@[simp] theorem State.setParser_rules (p : Port) (x : Parser) : (s.setParser p x).rules = s.rules := rfl
@[simp] theorem State.setParser_gates (p : Port) (x : Parser) : (s.setParser p x).gates = s.gates := rfl
@[simp] theorem State.setParser_bins (p : Port) (x : Parser) : (s.setParser p x).bins = s.bins := rfl
@[simp] theorem State.setParser_lotHolds (p : Port) (x : Parser) : (s.setParser p x).lotHolds = s.lotHolds := rfl
@[simp] theorem State.setParser_feeders (p : Port) (x : Parser) : (s.setParser p x).feeders = s.feeders := rfl
@[simp] theorem State.setParser_firstTurn (p : Port) (x : Parser) : (s.setParser p x).firstTurn = s.firstTurn := rfl
@[simp] theorem State.setParser_counters (p : Port) (x : Parser) : (s.setParser p x).counters = s.counters := rfl
@[simp] theorem State.setParser_now (p : Port) (x : Parser) : (s.setParser p x).now = s.now := rfl
@[simp] theorem State.setParser_pending (p : Port) (x : Parser) : (s.setParser p x).pending = s.pending := rfl

/-! ## `State.raise` -/

@[simp] theorem State.raise_mode (p : Port) (g : Flag) : (s.raise p g).mode = s.mode := rfl
@[simp] theorem State.raise_pendingLayout (p : Port) (g : Flag) : (s.raise p g).pendingLayout = s.pendingLayout := rfl
@[simp] theorem State.raise_activeLayout (p : Port) (g : Flag) : (s.raise p g).activeLayout = s.activeLayout := rfl
@[simp] theorem State.raise_tracker (p : Port) (g : Flag) : (s.raise p g).tracker = s.tracker := rfl
@[simp] theorem State.raise_reports (p : Port) (g : Flag) : (s.raise p g).reports = s.reports := rfl
@[simp] theorem State.raise_lanes (p : Port) (g : Flag) : (s.raise p g).lanes = s.lanes := rfl
@[simp] theorem State.raise_engine (p : Port) (g : Flag) : (s.raise p g).engine = s.engine := rfl
@[simp] theorem State.raise_rules (p : Port) (g : Flag) : (s.raise p g).rules = s.rules := rfl
@[simp] theorem State.raise_gates (p : Port) (g : Flag) : (s.raise p g).gates = s.gates := rfl
@[simp] theorem State.raise_bins (p : Port) (g : Flag) : (s.raise p g).bins = s.bins := rfl
@[simp] theorem State.raise_lotHolds (p : Port) (g : Flag) : (s.raise p g).lotHolds = s.lotHolds := rfl
@[simp] theorem State.raise_feeders (p : Port) (g : Flag) : (s.raise p g).feeders = s.feeders := rfl
@[simp] theorem State.raise_firstTurn (p : Port) (g : Flag) : (s.raise p g).firstTurn = s.firstTurn := rfl
@[simp] theorem State.raise_counters (p : Port) (g : Flag) : (s.raise p g).counters = s.counters := rfl
@[simp] theorem State.raise_now (p : Port) (g : Flag) : (s.raise p g).now = s.now := rfl
@[simp] theorem State.raise_pending (p : Port) (g : Flag) : (s.raise p g).pending = s.pending := rfl

/-! ## `State.raiseAll` -/

@[simp] theorem State.raiseAll_mode (g : Flag) : (s.raiseAll g).mode = s.mode := rfl
@[simp] theorem State.raiseAll_pendingLayout (g : Flag) : (s.raiseAll g).pendingLayout = s.pendingLayout := rfl
@[simp] theorem State.raiseAll_activeLayout (g : Flag) : (s.raiseAll g).activeLayout = s.activeLayout := rfl
@[simp] theorem State.raiseAll_tracker (g : Flag) : (s.raiseAll g).tracker = s.tracker := rfl
@[simp] theorem State.raiseAll_reports (g : Flag) : (s.raiseAll g).reports = s.reports := rfl
@[simp] theorem State.raiseAll_lanes (g : Flag) : (s.raiseAll g).lanes = s.lanes := rfl
@[simp] theorem State.raiseAll_engine (g : Flag) : (s.raiseAll g).engine = s.engine := rfl
@[simp] theorem State.raiseAll_rules (g : Flag) : (s.raiseAll g).rules = s.rules := rfl
@[simp] theorem State.raiseAll_gates (g : Flag) : (s.raiseAll g).gates = s.gates := rfl
@[simp] theorem State.raiseAll_bins (g : Flag) : (s.raiseAll g).bins = s.bins := rfl
@[simp] theorem State.raiseAll_lotHolds (g : Flag) : (s.raiseAll g).lotHolds = s.lotHolds := rfl
@[simp] theorem State.raiseAll_feeders (g : Flag) : (s.raiseAll g).feeders = s.feeders := rfl
@[simp] theorem State.raiseAll_firstTurn (g : Flag) : (s.raiseAll g).firstTurn = s.firstTurn := rfl
@[simp] theorem State.raiseAll_counters (g : Flag) : (s.raiseAll g).counters = s.counters := rfl
@[simp] theorem State.raiseAll_now (g : Flag) : (s.raiseAll g).now = s.now := rfl
@[simp] theorem State.raiseAll_pending (g : Flag) : (s.raiseAll g).pending = s.pending := rfl

/-! ## `State.send` -/

@[simp] theorem State.send_mode (p : Port) (o : OutcomeRec) :
    (s.send p o).mode = s.mode := by unfold State.send; split <;> rfl
@[simp] theorem State.send_pendingLayout (p : Port) (o : OutcomeRec) :
    (s.send p o).pendingLayout = s.pendingLayout := by unfold State.send; split <;> rfl
@[simp] theorem State.send_activeLayout (p : Port) (o : OutcomeRec) :
    (s.send p o).activeLayout = s.activeLayout := by unfold State.send; split <;> rfl
@[simp] theorem State.send_tracker (p : Port) (o : OutcomeRec) :
    (s.send p o).tracker = s.tracker := by unfold State.send; split <;> rfl
@[simp] theorem State.send_reports (p : Port) (o : OutcomeRec) :
    (s.send p o).reports = s.reports := by unfold State.send; split <;> rfl
@[simp] theorem State.send_lanes (p : Port) (o : OutcomeRec) :
    (s.send p o).lanes = s.lanes := by unfold State.send; split <;> rfl
@[simp] theorem State.send_engine (p : Port) (o : OutcomeRec) :
    (s.send p o).engine = s.engine := by unfold State.send; split <;> rfl
@[simp] theorem State.send_rules (p : Port) (o : OutcomeRec) :
    (s.send p o).rules = s.rules := by unfold State.send; split <;> rfl
@[simp] theorem State.send_gates (p : Port) (o : OutcomeRec) :
    (s.send p o).gates = s.gates := by unfold State.send; split <;> rfl
@[simp] theorem State.send_bins (p : Port) (o : OutcomeRec) :
    (s.send p o).bins = s.bins := by unfold State.send; split <;> rfl
@[simp] theorem State.send_lotHolds (p : Port) (o : OutcomeRec) :
    (s.send p o).lotHolds = s.lotHolds := by unfold State.send; split <;> rfl
@[simp] theorem State.send_feeders (p : Port) (o : OutcomeRec) :
    (s.send p o).feeders = s.feeders := by unfold State.send; split <;> rfl
@[simp] theorem State.send_firstTurn (p : Port) (o : OutcomeRec) :
    (s.send p o).firstTurn = s.firstTurn := by unfold State.send; split <;> rfl
@[simp] theorem State.send_counters (p : Port) (o : OutcomeRec) :
    (s.send p o).counters = s.counters := by unfold State.send; split <;> rfl
@[simp] theorem State.send_now (p : Port) (o : OutcomeRec) :
    (s.send p o).now = s.now := by unfold State.send; split <;> rfl
@[simp] theorem State.send_pending (p : Port) (o : OutcomeRec) :
    (s.send p o).pending = s.pending := by unfold State.send; split <;> rfl

/-! ## `State.bumpBy` -/

@[simp] theorem State.bumpBy_mode (c : Counter) (n : Nat) : (s.bumpBy c n).mode = s.mode := rfl
@[simp] theorem State.bumpBy_pendingLayout (c : Counter) (n : Nat) :
    (s.bumpBy c n).pendingLayout = s.pendingLayout := rfl
@[simp] theorem State.bumpBy_activeLayout (c : Counter) (n : Nat) :
    (s.bumpBy c n).activeLayout = s.activeLayout := rfl
@[simp] theorem State.bumpBy_tracker (c : Counter) (n : Nat) : (s.bumpBy c n).tracker = s.tracker := rfl
@[simp] theorem State.bumpBy_reports (c : Counter) (n : Nat) : (s.bumpBy c n).reports = s.reports := rfl
@[simp] theorem State.bumpBy_lanes (c : Counter) (n : Nat) : (s.bumpBy c n).lanes = s.lanes := rfl
@[simp] theorem State.bumpBy_engine (c : Counter) (n : Nat) : (s.bumpBy c n).engine = s.engine := rfl
@[simp] theorem State.bumpBy_rules (c : Counter) (n : Nat) : (s.bumpBy c n).rules = s.rules := rfl
@[simp] theorem State.bumpBy_gates (c : Counter) (n : Nat) : (s.bumpBy c n).gates = s.gates := rfl
@[simp] theorem State.bumpBy_bins (c : Counter) (n : Nat) : (s.bumpBy c n).bins = s.bins := rfl
@[simp] theorem State.bumpBy_lotHolds (c : Counter) (n : Nat) : (s.bumpBy c n).lotHolds = s.lotHolds := rfl
@[simp] theorem State.bumpBy_feeders (c : Counter) (n : Nat) : (s.bumpBy c n).feeders = s.feeders := rfl
@[simp] theorem State.bumpBy_firstTurn (c : Counter) (n : Nat) : (s.bumpBy c n).firstTurn = s.firstTurn := rfl
@[simp] theorem State.bumpBy_ports (c : Counter) (n : Nat) : (s.bumpBy c n).ports = s.ports := rfl
@[simp] theorem State.bumpBy_now (c : Counter) (n : Nat) : (s.bumpBy c n).now = s.now := rfl
@[simp] theorem State.bumpBy_pending (c : Counter) (n : Nat) : (s.bumpBy c n).pending = s.pending := rfl

/-! ## `State.bump` -/

@[simp] theorem State.bump_mode (c : Counter) : (s.bump c).mode = s.mode := rfl
@[simp] theorem State.bump_pendingLayout (c : Counter) : (s.bump c).pendingLayout = s.pendingLayout := rfl
@[simp] theorem State.bump_activeLayout (c : Counter) : (s.bump c).activeLayout = s.activeLayout := rfl
@[simp] theorem State.bump_tracker (c : Counter) : (s.bump c).tracker = s.tracker := rfl
@[simp] theorem State.bump_reports (c : Counter) : (s.bump c).reports = s.reports := rfl
@[simp] theorem State.bump_lanes (c : Counter) : (s.bump c).lanes = s.lanes := rfl
@[simp] theorem State.bump_engine (c : Counter) : (s.bump c).engine = s.engine := rfl
@[simp] theorem State.bump_rules (c : Counter) : (s.bump c).rules = s.rules := rfl
@[simp] theorem State.bump_gates (c : Counter) : (s.bump c).gates = s.gates := rfl
@[simp] theorem State.bump_bins (c : Counter) : (s.bump c).bins = s.bins := rfl
@[simp] theorem State.bump_lotHolds (c : Counter) : (s.bump c).lotHolds = s.lotHolds := rfl
@[simp] theorem State.bump_feeders (c : Counter) : (s.bump c).feeders = s.feeders := rfl
@[simp] theorem State.bump_firstTurn (c : Counter) : (s.bump c).firstTurn = s.firstTurn := rfl
@[simp] theorem State.bump_ports (c : Counter) : (s.bump c).ports = s.ports := rfl
@[simp] theorem State.bump_now (c : Counter) : (s.bump c).now = s.now := rfl
@[simp] theorem State.bump_pending (c : Counter) : (s.bump c).pending = s.pending := rfl

/-! ## `State.setBin` -/

@[simp] theorem State.setBin_mode (b : BinId) (r : BinRec) : (s.setBin b r).mode = s.mode := rfl
@[simp] theorem State.setBin_pendingLayout (b : BinId) (r : BinRec) :
    (s.setBin b r).pendingLayout = s.pendingLayout := rfl
@[simp] theorem State.setBin_activeLayout (b : BinId) (r : BinRec) :
    (s.setBin b r).activeLayout = s.activeLayout := rfl
@[simp] theorem State.setBin_tracker (b : BinId) (r : BinRec) : (s.setBin b r).tracker = s.tracker := rfl
@[simp] theorem State.setBin_reports (b : BinId) (r : BinRec) : (s.setBin b r).reports = s.reports := rfl
@[simp] theorem State.setBin_lanes (b : BinId) (r : BinRec) : (s.setBin b r).lanes = s.lanes := rfl
@[simp] theorem State.setBin_engine (b : BinId) (r : BinRec) : (s.setBin b r).engine = s.engine := rfl
@[simp] theorem State.setBin_rules (b : BinId) (r : BinRec) : (s.setBin b r).rules = s.rules := rfl
@[simp] theorem State.setBin_gates (b : BinId) (r : BinRec) : (s.setBin b r).gates = s.gates := rfl
@[simp] theorem State.setBin_lotHolds (b : BinId) (r : BinRec) : (s.setBin b r).lotHolds = s.lotHolds := rfl
@[simp] theorem State.setBin_feeders (b : BinId) (r : BinRec) : (s.setBin b r).feeders = s.feeders := rfl
@[simp] theorem State.setBin_firstTurn (b : BinId) (r : BinRec) : (s.setBin b r).firstTurn = s.firstTurn := rfl
@[simp] theorem State.setBin_ports (b : BinId) (r : BinRec) : (s.setBin b r).ports = s.ports := rfl
@[simp] theorem State.setBin_counters (b : BinId) (r : BinRec) : (s.setBin b r).counters = s.counters := rfl
@[simp] theorem State.setBin_now (b : BinId) (r : BinRec) : (s.setBin b r).now = s.now := rfl
@[simp] theorem State.setBin_pending (b : BinId) (r : BinRec) : (s.setBin b r).pending = s.pending := rfl

/-! ## `State.mapBins` -/

@[simp] theorem State.mapBins_mode (f : BinRec → BinRec) : (s.mapBins f).mode = s.mode := rfl
@[simp] theorem State.mapBins_pendingLayout (f : BinRec → BinRec) :
    (s.mapBins f).pendingLayout = s.pendingLayout := rfl
@[simp] theorem State.mapBins_activeLayout (f : BinRec → BinRec) : (s.mapBins f).activeLayout = s.activeLayout := rfl
@[simp] theorem State.mapBins_tracker (f : BinRec → BinRec) : (s.mapBins f).tracker = s.tracker := rfl
@[simp] theorem State.mapBins_reports (f : BinRec → BinRec) : (s.mapBins f).reports = s.reports := rfl
@[simp] theorem State.mapBins_lanes (f : BinRec → BinRec) : (s.mapBins f).lanes = s.lanes := rfl
@[simp] theorem State.mapBins_engine (f : BinRec → BinRec) : (s.mapBins f).engine = s.engine := rfl
@[simp] theorem State.mapBins_rules (f : BinRec → BinRec) : (s.mapBins f).rules = s.rules := rfl
@[simp] theorem State.mapBins_gates (f : BinRec → BinRec) : (s.mapBins f).gates = s.gates := rfl
@[simp] theorem State.mapBins_lotHolds (f : BinRec → BinRec) : (s.mapBins f).lotHolds = s.lotHolds := rfl
@[simp] theorem State.mapBins_feeders (f : BinRec → BinRec) : (s.mapBins f).feeders = s.feeders := rfl
@[simp] theorem State.mapBins_firstTurn (f : BinRec → BinRec) : (s.mapBins f).firstTurn = s.firstTurn := rfl
@[simp] theorem State.mapBins_ports (f : BinRec → BinRec) : (s.mapBins f).ports = s.ports := rfl
@[simp] theorem State.mapBins_counters (f : BinRec → BinRec) : (s.mapBins f).counters = s.counters := rfl
@[simp] theorem State.mapBins_now (f : BinRec → BinRec) : (s.mapBins f).now = s.now := rfl
@[simp] theorem State.mapBins_pending (f : BinRec → BinRec) : (s.mapBins f).pending = s.pending := rfl

/-! ## `State.floatRelease` -/

@[simp] theorem State.floatRelease_mode (b : BinId) : (s.floatRelease b).mode = s.mode := rfl
@[simp] theorem State.floatRelease_pendingLayout (b : BinId) :
    (s.floatRelease b).pendingLayout = s.pendingLayout := rfl
@[simp] theorem State.floatRelease_activeLayout (b : BinId) : (s.floatRelease b).activeLayout = s.activeLayout := rfl
@[simp] theorem State.floatRelease_tracker (b : BinId) : (s.floatRelease b).tracker = s.tracker := rfl
@[simp] theorem State.floatRelease_reports (b : BinId) : (s.floatRelease b).reports = s.reports := rfl
@[simp] theorem State.floatRelease_lanes (b : BinId) : (s.floatRelease b).lanes = s.lanes := rfl
@[simp] theorem State.floatRelease_engine (b : BinId) : (s.floatRelease b).engine = s.engine := rfl
@[simp] theorem State.floatRelease_rules (b : BinId) : (s.floatRelease b).rules = s.rules := rfl
@[simp] theorem State.floatRelease_gates (b : BinId) : (s.floatRelease b).gates = s.gates := rfl
@[simp] theorem State.floatRelease_lotHolds (b : BinId) : (s.floatRelease b).lotHolds = s.lotHolds := rfl
@[simp] theorem State.floatRelease_feeders (b : BinId) : (s.floatRelease b).feeders = s.feeders := rfl
@[simp] theorem State.floatRelease_firstTurn (b : BinId) : (s.floatRelease b).firstTurn = s.firstTurn := rfl
@[simp] theorem State.floatRelease_ports (b : BinId) : (s.floatRelease b).ports = s.ports := rfl
@[simp] theorem State.floatRelease_counters (b : BinId) : (s.floatRelease b).counters = s.counters := rfl
@[simp] theorem State.floatRelease_now (b : BinId) : (s.floatRelease b).now = s.now := rfl
@[simp] theorem State.floatRelease_pending (b : BinId) : (s.floatRelease b).pending = s.pending := rfl

/-! ## `State.clearClaim` -/

@[simp] theorem State.clearClaim_mode (f : Feeder) : (s.clearClaim f).mode = s.mode := rfl
@[simp] theorem State.clearClaim_pendingLayout (f : Feeder) : (s.clearClaim f).pendingLayout = s.pendingLayout := rfl
@[simp] theorem State.clearClaim_activeLayout (f : Feeder) : (s.clearClaim f).activeLayout = s.activeLayout := rfl
@[simp] theorem State.clearClaim_tracker (f : Feeder) : (s.clearClaim f).tracker = s.tracker := rfl
@[simp] theorem State.clearClaim_reports (f : Feeder) : (s.clearClaim f).reports = s.reports := rfl
@[simp] theorem State.clearClaim_lanes (f : Feeder) : (s.clearClaim f).lanes = s.lanes := rfl
@[simp] theorem State.clearClaim_engine (f : Feeder) : (s.clearClaim f).engine = s.engine := rfl
@[simp] theorem State.clearClaim_rules (f : Feeder) : (s.clearClaim f).rules = s.rules := rfl
@[simp] theorem State.clearClaim_gates (f : Feeder) : (s.clearClaim f).gates = s.gates := rfl
@[simp] theorem State.clearClaim_lotHolds (f : Feeder) : (s.clearClaim f).lotHolds = s.lotHolds := rfl
@[simp] theorem State.clearClaim_feeders (f : Feeder) : (s.clearClaim f).feeders = s.feeders := rfl
@[simp] theorem State.clearClaim_firstTurn (f : Feeder) : (s.clearClaim f).firstTurn = s.firstTurn := rfl
@[simp] theorem State.clearClaim_ports (f : Feeder) : (s.clearClaim f).ports = s.ports := rfl
@[simp] theorem State.clearClaim_counters (f : Feeder) : (s.clearClaim f).counters = s.counters := rfl
@[simp] theorem State.clearClaim_now (f : Feeder) : (s.clearClaim f).now = s.now := rfl
@[simp] theorem State.clearClaim_pending (f : Feeder) : (s.clearClaim f).pending = s.pending := rfl

/-! ## `State.setGate` -/

@[simp] theorem State.setGate_mode (b : BinId) (g : Gate) : (s.setGate b g).mode = s.mode := rfl
@[simp] theorem State.setGate_pendingLayout (b : BinId) (g : Gate) :
    (s.setGate b g).pendingLayout = s.pendingLayout := rfl
@[simp] theorem State.setGate_activeLayout (b : BinId) (g : Gate) :
    (s.setGate b g).activeLayout = s.activeLayout := rfl
@[simp] theorem State.setGate_tracker (b : BinId) (g : Gate) : (s.setGate b g).tracker = s.tracker := rfl
@[simp] theorem State.setGate_reports (b : BinId) (g : Gate) : (s.setGate b g).reports = s.reports := rfl
@[simp] theorem State.setGate_lanes (b : BinId) (g : Gate) : (s.setGate b g).lanes = s.lanes := rfl
@[simp] theorem State.setGate_engine (b : BinId) (g : Gate) : (s.setGate b g).engine = s.engine := rfl
@[simp] theorem State.setGate_rules (b : BinId) (g : Gate) : (s.setGate b g).rules = s.rules := rfl
@[simp] theorem State.setGate_bins (b : BinId) (g : Gate) : (s.setGate b g).bins = s.bins := rfl
@[simp] theorem State.setGate_lotHolds (b : BinId) (g : Gate) : (s.setGate b g).lotHolds = s.lotHolds := rfl
@[simp] theorem State.setGate_feeders (b : BinId) (g : Gate) : (s.setGate b g).feeders = s.feeders := rfl
@[simp] theorem State.setGate_firstTurn (b : BinId) (g : Gate) : (s.setGate b g).firstTurn = s.firstTurn := rfl
@[simp] theorem State.setGate_ports (b : BinId) (g : Gate) : (s.setGate b g).ports = s.ports := rfl
@[simp] theorem State.setGate_counters (b : BinId) (g : Gate) : (s.setGate b g).counters = s.counters := rfl
@[simp] theorem State.setGate_now (b : BinId) (g : Gate) : (s.setGate b g).now = s.now := rfl
@[simp] theorem State.setGate_pending (b : BinId) (g : Gate) : (s.setGate b g).pending = s.pending := rfl

/-! ## `State.setFeeder` -/

@[simp] theorem State.setFeeder_mode (f : Feeder) (r : FeederRec) :
    (s.setFeeder f r).mode = s.mode := by cases f <;> rfl
@[simp] theorem State.setFeeder_pendingLayout (f : Feeder) (r : FeederRec) :
    (s.setFeeder f r).pendingLayout = s.pendingLayout := by cases f <;> rfl
@[simp] theorem State.setFeeder_activeLayout (f : Feeder) (r : FeederRec) :
    (s.setFeeder f r).activeLayout = s.activeLayout := by cases f <;> rfl
@[simp] theorem State.setFeeder_tracker (f : Feeder) (r : FeederRec) :
    (s.setFeeder f r).tracker = s.tracker := by cases f <;> rfl
@[simp] theorem State.setFeeder_reports (f : Feeder) (r : FeederRec) :
    (s.setFeeder f r).reports = s.reports := by cases f <;> rfl
@[simp] theorem State.setFeeder_lanes (f : Feeder) (r : FeederRec) :
    (s.setFeeder f r).lanes = s.lanes := by cases f <;> rfl
@[simp] theorem State.setFeeder_engine (f : Feeder) (r : FeederRec) :
    (s.setFeeder f r).engine = s.engine := by cases f <;> rfl
@[simp] theorem State.setFeeder_rules (f : Feeder) (r : FeederRec) :
    (s.setFeeder f r).rules = s.rules := by cases f <;> rfl
@[simp] theorem State.setFeeder_gates (f : Feeder) (r : FeederRec) :
    (s.setFeeder f r).gates = s.gates := by cases f <;> rfl
@[simp] theorem State.setFeeder_bins (f : Feeder) (r : FeederRec) :
    (s.setFeeder f r).bins = s.bins := by cases f <;> rfl
@[simp] theorem State.setFeeder_lotHolds (f : Feeder) (r : FeederRec) :
    (s.setFeeder f r).lotHolds = s.lotHolds := by cases f <;> rfl
@[simp] theorem State.setFeeder_firstTurn (f : Feeder) (r : FeederRec) :
    (s.setFeeder f r).firstTurn = s.firstTurn := by cases f <;> rfl
@[simp] theorem State.setFeeder_ports (f : Feeder) (r : FeederRec) :
    (s.setFeeder f r).ports = s.ports := by cases f <;> rfl
@[simp] theorem State.setFeeder_counters (f : Feeder) (r : FeederRec) :
    (s.setFeeder f r).counters = s.counters := by cases f <;> rfl
@[simp] theorem State.setFeeder_now (f : Feeder) (r : FeederRec) : (s.setFeeder f r).now = s.now := by cases f <;> rfl
@[simp] theorem State.setFeeder_pending (f : Feeder) (r : FeederRec) :
    (s.setFeeder f r).pending = s.pending := by cases f <;> rfl

/-! ## `State.setQueue` -/

@[simp] theorem State.setQueue_mode (q : List TrackRec) : (s.setQueue q).mode = s.mode := rfl
@[simp] theorem State.setQueue_pendingLayout (q : List TrackRec) :
    (s.setQueue q).pendingLayout = s.pendingLayout := rfl
@[simp] theorem State.setQueue_activeLayout (q : List TrackRec) : (s.setQueue q).activeLayout = s.activeLayout := rfl
@[simp] theorem State.setQueue_reports (q : List TrackRec) : (s.setQueue q).reports = s.reports := rfl
@[simp] theorem State.setQueue_lanes (q : List TrackRec) : (s.setQueue q).lanes = s.lanes := rfl
@[simp] theorem State.setQueue_engine (q : List TrackRec) : (s.setQueue q).engine = s.engine := rfl
@[simp] theorem State.setQueue_rules (q : List TrackRec) : (s.setQueue q).rules = s.rules := rfl
@[simp] theorem State.setQueue_gates (q : List TrackRec) : (s.setQueue q).gates = s.gates := rfl
@[simp] theorem State.setQueue_bins (q : List TrackRec) : (s.setQueue q).bins = s.bins := rfl
@[simp] theorem State.setQueue_lotHolds (q : List TrackRec) : (s.setQueue q).lotHolds = s.lotHolds := rfl
@[simp] theorem State.setQueue_feeders (q : List TrackRec) : (s.setQueue q).feeders = s.feeders := rfl
@[simp] theorem State.setQueue_firstTurn (q : List TrackRec) : (s.setQueue q).firstTurn = s.firstTurn := rfl
@[simp] theorem State.setQueue_ports (q : List TrackRec) : (s.setQueue q).ports = s.ports := rfl
@[simp] theorem State.setQueue_counters (q : List TrackRec) : (s.setQueue q).counters = s.counters := rfl
@[simp] theorem State.setQueue_now (q : List TrackRec) : (s.setQueue q).now = s.now := rfl
@[simp] theorem State.setQueue_pending (q : List TrackRec) : (s.setQueue q).pending = s.pending := rfl

/-! ## `State.cancelGate` -/

@[simp] theorem State.cancelGate_mode (b : BinId) : (s.cancelGate b).mode = s.mode := rfl
@[simp] theorem State.cancelGate_pendingLayout (b : BinId) : (s.cancelGate b).pendingLayout = s.pendingLayout := rfl
@[simp] theorem State.cancelGate_activeLayout (b : BinId) : (s.cancelGate b).activeLayout = s.activeLayout := rfl
@[simp] theorem State.cancelGate_reports (b : BinId) : (s.cancelGate b).reports = s.reports := rfl
@[simp] theorem State.cancelGate_lanes (b : BinId) : (s.cancelGate b).lanes = s.lanes := rfl
@[simp] theorem State.cancelGate_engine (b : BinId) : (s.cancelGate b).engine = s.engine := rfl
@[simp] theorem State.cancelGate_rules (b : BinId) : (s.cancelGate b).rules = s.rules := rfl
@[simp] theorem State.cancelGate_bins (b : BinId) : (s.cancelGate b).bins = s.bins := rfl
@[simp] theorem State.cancelGate_lotHolds (b : BinId) : (s.cancelGate b).lotHolds = s.lotHolds := rfl
@[simp] theorem State.cancelGate_feeders (b : BinId) : (s.cancelGate b).feeders = s.feeders := rfl
@[simp] theorem State.cancelGate_firstTurn (b : BinId) : (s.cancelGate b).firstTurn = s.firstTurn := rfl
@[simp] theorem State.cancelGate_ports (b : BinId) : (s.cancelGate b).ports = s.ports := rfl
@[simp] theorem State.cancelGate_counters (b : BinId) : (s.cancelGate b).counters = s.counters := rfl
@[simp] theorem State.cancelGate_now (b : BinId) : (s.cancelGate b).now = s.now := rfl
@[simp] theorem State.cancelGate_pending (b : BinId) : (s.cancelGate b).pending = s.pending := rfl

/-! ## `State.emptyGates` -/

@[simp] theorem State.emptyGates_mode : (s.emptyGates).mode = s.mode := rfl
@[simp] theorem State.emptyGates_pendingLayout : (s.emptyGates).pendingLayout = s.pendingLayout := rfl
@[simp] theorem State.emptyGates_activeLayout : (s.emptyGates).activeLayout = s.activeLayout := rfl
@[simp] theorem State.emptyGates_tracker : (s.emptyGates).tracker = s.tracker := rfl
@[simp] theorem State.emptyGates_reports : (s.emptyGates).reports = s.reports := rfl
@[simp] theorem State.emptyGates_lanes : (s.emptyGates).lanes = s.lanes := rfl
@[simp] theorem State.emptyGates_engine : (s.emptyGates).engine = s.engine := rfl
@[simp] theorem State.emptyGates_rules : (s.emptyGates).rules = s.rules := rfl
@[simp] theorem State.emptyGates_bins : (s.emptyGates).bins = s.bins := rfl
@[simp] theorem State.emptyGates_lotHolds : (s.emptyGates).lotHolds = s.lotHolds := rfl
@[simp] theorem State.emptyGates_feeders : (s.emptyGates).feeders = s.feeders := rfl
@[simp] theorem State.emptyGates_firstTurn : (s.emptyGates).firstTurn = s.firstTurn := rfl
@[simp] theorem State.emptyGates_ports : (s.emptyGates).ports = s.ports := rfl
@[simp] theorem State.emptyGates_counters : (s.emptyGates).counters = s.counters := rfl
@[simp] theorem State.emptyGates_now : (s.emptyGates).now = s.now := rfl
@[simp] theorem State.emptyGates_pending : (s.emptyGates).pending = s.pending := rfl

/-! ## `State.exchange` -/

@[simp] theorem State.exchange_mode : (s.exchange).mode = s.mode := rfl
@[simp] theorem State.exchange_pendingLayout : (s.exchange).pendingLayout = s.pendingLayout := rfl
@[simp] theorem State.exchange_activeLayout : (s.exchange).activeLayout = s.activeLayout := rfl
@[simp] theorem State.exchange_tracker : (s.exchange).tracker = s.tracker := rfl
@[simp] theorem State.exchange_reports : (s.exchange).reports = s.reports := rfl
@[simp] theorem State.exchange_lanes : (s.exchange).lanes = s.lanes := rfl
@[simp] theorem State.exchange_engine : (s.exchange).engine = s.engine := rfl
@[simp] theorem State.exchange_gates : (s.exchange).gates = s.gates := rfl
@[simp] theorem State.exchange_bins : (s.exchange).bins = s.bins := rfl
@[simp] theorem State.exchange_lotHolds : (s.exchange).lotHolds = s.lotHolds := rfl
@[simp] theorem State.exchange_feeders : (s.exchange).feeders = s.feeders := rfl
@[simp] theorem State.exchange_firstTurn : (s.exchange).firstTurn = s.firstTurn := rfl
@[simp] theorem State.exchange_counters : (s.exchange).counters = s.counters := rfl
@[simp] theorem State.exchange_now : (s.exchange).now = s.now := rfl
@[simp] theorem State.exchange_pending : (s.exchange).pending = s.pending := rfl

/-! ## Ports -/

@[simp] theorem State.port_setPort_self (p : Port) (r : PortRec) : (s.setPort p r).port p = r := by
  rcases p with _ | _ | _ <;> rfl

theorem State.port_setPort_ne {p q : Port} (h : q ≠ p) (r : PortRec) : (s.setPort p r).port q = s.port q := by
  rcases p with _ | _ | _ <;> rcases q with _ | _ | _ <;> first | rfl | exact absurd rfl h

theorem State.port_setPort (p q : Port) (r : PortRec) :
    (s.setPort p r).port q = if q = p then r else s.port q := by
  split
  · subst_vars; exact s.port_setPort_self _ _
  · exact s.port_setPort_ne ‹_› _

@[simp] theorem State.port_setParser_self (p : Port) (x : Parser) :
    (s.setParser p x).port p = { s.port p with parser := x } := s.port_setPort_self _ _

@[simp] theorem State.port_raise_self (p : Port) (g : Flag) : (s.raise p g).port p = (s.port p).raise g :=
  s.port_setPort_self _ _

@[simp] theorem State.port_raiseAll (p : Port) (g : Flag) : (s.raiseAll g).port p = (s.port p).raise g := by
  rcases p with _ | _ | _ <;> rfl

/-- Two states with the same port tables read the same at every port. -/
theorem State.port_congr {s t : State} (h : t.ports = s.ports) (p : Port) : t.port p = s.port p := by
  rcases p with _ | _ | _ <;> simp [State.port, h]

@[simp] theorem PortRec.raise_parser (r : PortRec) (g : Flag) : (r.raise g).parser = r.parser := rfl
@[simp] theorem PortRec.raise_outcomes (r : PortRec) (g : Flag) : (r.raise g).outcomes = r.outcomes := rfl
@[simp] theorem PortRec.raise_mask (r : PortRec) (g : Flag) : (r.raise g).mask = r.mask := rfl
@[simp] theorem PortRec.raise_flags (r : PortRec) (g : Flag) : (r.raise g).flags = r.flags ||| g.word := rfl
@[simp] theorem PortRec.raise_seen (r : PortRec) (g : Flag) : (r.raise g).seen = r.seen &&& ~~~g.word := rfl

/-! ## Tables over bins and lanes -/

@[simp] theorem tabulateBins_getElem {α : Type} (f : BinId → α) (b : BinId) : (tabulateBins f)[b] = f b := by
  fin_cases b <;> rfl

@[simp] theorem tabulateLanes_getElem {α : Type} (f : LaneId → α) (i : LaneId) : (tabulateLanes f)[i] = f i := by
  fin_cases i <;> rfl

/-! ## Bins -/

theorem State.bin_setBin (b c : BinId) (r : BinRec) :
    (s.setBin b r).bin c = if c = b then r else s.bin c := by
  simp only [State.bin, State.setBin, Fin.getElem_fin, Vector.getElem_set, Fin.ext_iff, eq_comm]

@[simp] theorem State.bin_setBin_self (b : BinId) (r : BinRec) : (s.setBin b r).bin b = r := by
  rw [State.bin_setBin, if_pos rfl]

theorem State.bin_setBin_ne {b c : BinId} (h : c ≠ b) (r : BinRec) : (s.setBin b r).bin c = s.bin c := by
  rw [State.bin_setBin, if_neg h]

@[simp] theorem State.bin_mapBins (f : BinRec → BinRec) (b : BinId) : (s.mapBins f).bin b = f (s.bin b) :=
  tabulateBins_getElem _ _

/-- Two states with the same bin records read the same at every bin. -/
theorem State.bin_congr {s t : State} (h : t.bins = s.bins) (b : BinId) : t.bin b = s.bin b := by
  simp only [State.bin, h]

/-! ## Gates -/

theorem State.gate_setGate (b c : BinId) (g : Gate) :
    (s.setGate b g).gate c = if c = b then g else s.gate c := by
  simp only [State.gate, State.setGate, Fin.getElem_fin, Vector.getElem_set, Fin.ext_iff, eq_comm]

@[simp] theorem State.gate_setGate_self (b : BinId) (g : Gate) : (s.setGate b g).gate b = g := by
  rw [State.gate_setGate, if_pos rfl]

theorem State.gate_setGate_ne {b c : BinId} (h : c ≠ b) (g : Gate) : (s.setGate b g).gate c = s.gate c := by
  rw [State.gate_setGate, if_neg h]

/-- Two states with the same gates read the same at every gate. -/
theorem State.gate_congr {s t : State} (h : t.gates = s.gates) (b : BinId) : t.gate b = s.gate b := by
  simp only [State.gate, h]

@[simp] theorem State.gate_emptyGates (b : BinId) : (s.emptyGates).gate b = {} := by
  simp [State.gate, State.emptyGates]

/-! ## Feeders -/

@[simp] theorem State.feeder_setFeeder_self (f : Feeder) (r : FeederRec) : (s.setFeeder f r).feeder f = r := by
  cases f <;> rfl

theorem State.feeder_setFeeder_ne {f g : Feeder} (h : g ≠ f) (r : FeederRec) :
    (s.setFeeder f r).feeder g = s.feeder g := by
  cases f <;> cases g <;> first | rfl | exact absurd rfl h

theorem State.feeder_setFeeder (f g : Feeder) (r : FeederRec) :
    (s.setFeeder f r).feeder g = if g = f then r else s.feeder g := by
  split
  · subst_vars; exact s.feeder_setFeeder_self _ _
  · exact s.feeder_setFeeder_ne ‹_› _

/-- Two states with the same feeder records read the same at both feeders. -/
theorem State.feeder_congr {s t : State} (h : t.feeders = s.feeders) (f : Feeder) : t.feeder f = s.feeder f := by
  cases f <;> simp only [State.feeder, h]

/-! ## Counters -/

/-- Every counter has its own place. -/
theorem Counter.index_injective : Function.Injective Counter.index := by
  intro c d h
  rcases c with _ | _ | _ | _ | _ | _ | _ | _ | _ | _ | (_ | _ | _ | _ | _ | _ | _) |
    (_ | _ | _ | _ | _ | _ | _ | _) | _ | _ | _ | _ | _ | _ | (_ | _) | (_ | _) | (_ | _) <;>
  rcases d with _ | _ | _ | _ | _ | _ | _ | _ | _ | _ | (_ | _ | _ | _ | _ | _ | _) |
    (_ | _ | _ | _ | _ | _ | _ | _) | _ | _ | _ | _ | _ | _ | (_ | _) | (_ | _) | (_ | _) <;>
  first | rfl | exact absurd h (by decide)

theorem State.counter_bumpBy (c d : Counter) (n : Nat) :
    (s.bumpBy c n).counter d = if d = c then min (s.counter c + n) Config.counterMax else s.counter d := by
  by_cases h : d = c
  · subst h; simp [State.counter, State.bumpBy]
  · have : c.index.val ≠ d.index.val := fun e => h (Counter.index_injective (Fin.ext e)).symm
    simp [State.counter, State.bumpBy, this, h]

@[simp] theorem State.counter_bumpBy_self (c : Counter) (n : Nat) :
    (s.bumpBy c n).counter c = min (s.counter c + n) Config.counterMax := by
  rw [State.counter_bumpBy, if_pos rfl]

theorem State.counter_bumpBy_ne {c d : Counter} (h : d ≠ c) (n : Nat) :
    (s.bumpBy c n).counter d = s.counter d := by rw [State.counter_bumpBy, if_neg h]

@[simp] theorem State.counter_bump_self (c : Counter) :
    (s.bump c).counter c = min (s.counter c + 1) Config.counterMax := s.counter_bumpBy_self c 1

/-! ## Tracker -/

@[simp] theorem State.setQueue_queue (q : List TrackRec) : (s.setQueue q).tracker.queue = q := rfl
@[simp] theorem State.setQueue_pos (q : List TrackRec) : (s.setQueue q).tracker.pos = s.tracker.pos := rfl
@[simp] theorem State.setQueue_residue (q : List TrackRec) : (s.setQueue q).tracker.residue = s.tracker.residue := rfl
@[simp] theorem State.setQueue_backlash (q : List TrackRec) : (s.setQueue q).tracker.backlash = s.tracker.backlash := rfl
@[simp] theorem State.setQueue_eye (q : List TrackRec) : (s.setQueue q).tracker.eye = s.tracker.eye := rfl
@[simp] theorem State.setQueue_storeCounter (q : List TrackRec) :
    (s.setQueue q).tracker.storeCounter = s.tracker.storeCounter := rfl

end Sys2Proof.Machine
end

