-- ==== Sys2Proof/Laws/Arbiter.lean ====
section
/-! SUPPORT. The Draw Arbiter's shared operations: each leaves everything but the claims, the reservation marks, the
feeders' plies, their outcome queues and the first turn as it was, and so does a whole search round. -/

namespace Sys2Proof.Machine

open Sys2Proof

/-! ## The frame is kept along a chain of steps -/

@[refl] theorem BinRec.RoundFrame.refl (r : BinRec) : r.RoundFrame r := ⟨rfl, rfl⟩

theorem BinRec.RoundFrame.trans {r r' r'' : BinRec} (h : r.RoundFrame r') (h' : r'.RoundFrame r'') :
    r.RoundFrame r'' := by
  obtain ⟨h1, h2⟩ := h
  obtain ⟨h1', h2'⟩ := h'
  refine ⟨?_, h2'.trans h2⟩
  rw [h1', h1]

@[refl] theorem PortRec.RoundFrame.refl (r : PortRec) : r.RoundFrame r :=
  ⟨rfl, rfl, ⟨[], by simp⟩, fun _ _ => ⟨rfl, rfl⟩⟩

theorem PortRec.RoundFrame.trans {r r' r'' : PortRec} (h : r.RoundFrame r') (h' : r'.RoundFrame r'') :
    r.RoundFrame r'' := by
  obtain ⟨h1, h2, ⟨n, h3⟩, h4⟩ := h
  obtain ⟨h1', h2', ⟨n', h3'⟩, h4'⟩ := h'
  exact ⟨h1'.trans h1, h2'.trans h2, ⟨n ++ n', by rw [h3', h3, List.append_assoc]⟩,
    fun i hi => ⟨(h4' i hi).1.trans (h4 i hi).1, (h4' i hi).2.trans (h4 i hi).2⟩⟩

@[refl] theorem FeederRec.RoundFrame.refl (r : FeederRec) : r.RoundFrame r := ⟨rfl, rfl, rfl⟩

theorem FeederRec.RoundFrame.trans {r r' r'' : FeederRec} (h : r.RoundFrame r') (h' : r'.RoundFrame r'') :
    r.RoundFrame r'' := ⟨h'.1.trans h.1, h'.2.1.trans h.2.1, h'.2.2.trans h.2.2⟩

@[refl] theorem State.RoundFrame.refl (s : State) : s.RoundFrame s where
  mode := rfl
  pendingLayout := rfl
  activeLayout := rfl
  tracker := rfl
  reports := rfl
  lanes := rfl
  engine := rfl
  rules := rfl
  gates := rfl
  lotHolds := rfl
  counters := rfl
  now := rfl
  pending := rfl
  line := rfl
  bins _ := .refl _
  ports _ := .refl _
  feeders _ := .refl _

theorem State.RoundFrame.trans {s t u : State} (h : s.RoundFrame t) (h' : t.RoundFrame u) : s.RoundFrame u where
  mode := h'.mode.trans h.mode
  pendingLayout := h'.pendingLayout.trans h.pendingLayout
  activeLayout := h'.activeLayout.trans h.activeLayout
  tracker := h'.tracker.trans h.tracker
  reports := h'.reports.trans h.reports
  lanes := h'.lanes.trans h.lanes
  engine := h'.engine.trans h.engine
  rules := h'.rules.trans h.rules
  gates := h'.gates.trans h.gates
  lotHolds := h'.lotHolds.trans h.lotHolds
  counters := h'.counters.trans h.counters
  now := h'.now.trans h.now
  pending := h'.pending.trans h.pending
  line := h'.line.trans h.line
  bins b := (h.bins b).trans (h'.bins b)
  ports f := (h.ports f).trans (h'.ports f)
  feeders f := (h.feeders f).trans (h'.feeders f)

/-- A step taken only when a test holds. -/
theorem State.RoundFrame.ite {s t u : State} {c : Bool} (h : s.RoundFrame t) (h' : t.RoundFrame u) :
    s.RoundFrame (if c then u else t) := by
  split
  · exact h.trans h'
  · exact h

/-! ## Each operation -/

/-- A bin update that changes the claim and the reservation marks alone. -/
theorem State.roundFrame_setBin (s : State) (b : BinId) (r : BinRec) (h : (s.bin b).RoundFrame r) :
    s.RoundFrame (s.setBin b r) where
  mode := rfl
  pendingLayout := rfl
  activeLayout := rfl
  tracker := rfl
  reports := rfl
  lanes := rfl
  engine := rfl
  rules := rfl
  gates := rfl
  lotHolds := rfl
  counters := rfl
  now := rfl
  pending := rfl
  line := rfl
  bins c := by
    rw [State.bin_setBin]
    split
    · subst_vars; exact h
    · exact .refl _
  ports _ := .refl _
  feeders _ := .refl _

/-- A change of every bin record that changes claims and reservation marks alone. -/
theorem State.roundFrame_mapBins (s : State) (g : BinRec → BinRec) (h : ∀ r : BinRec, r.RoundFrame (g r)) :
    s.RoundFrame (s.mapBins g) where
  mode := rfl
  pendingLayout := rfl
  activeLayout := rfl
  tracker := rfl
  reports := rfl
  lanes := rfl
  engine := rfl
  rules := rfl
  gates := rfl
  lotHolds := rfl
  counters := rfl
  now := rfl
  pending := rfl
  line := rfl
  bins c := by rw [State.bin_mapBins]; exact h _
  ports _ := .refl _
  feeders _ := .refl _

/-- A feeder update that keeps the mode, the group size and the timeout. -/
theorem State.roundFrame_setFeeder (s : State) (f : Feeder) (r : FeederRec) (h : (s.feeder f).RoundFrame r) :
    s.RoundFrame (s.setFeeder f r) where
  mode := by simp
  pendingLayout := by simp
  activeLayout := by simp
  tracker := by simp
  reports := by simp
  lanes := by simp
  engine := by simp
  rules := by simp
  gates := by simp
  lotHolds := by simp
  counters := by simp
  now := by simp
  pending := by simp
  line := by simp
  bins c := by rw [State.bin_congr (s.setFeeder_bins f r)]
  ports g := by rw [State.port_congr (s.setFeeder_ports f r)]
  feeders g := by
    rw [State.feeder_setFeeder]
    split
    · subst_vars; exact h
    · exact .refl _

/-- A port update on a feeder port. -/
theorem State.roundFrame_setPort (s : State) (f : Feeder) (r : PortRec) (h : (s.port (.feeder f)).RoundFrame r) :
    s.RoundFrame (s.setPort (.feeder f) r) where
  mode := rfl
  pendingLayout := rfl
  activeLayout := rfl
  tracker := rfl
  reports := rfl
  lanes := rfl
  engine := rfl
  rules := rfl
  gates := rfl
  lotHolds := rfl
  counters := rfl
  now := rfl
  pending := rfl
  line := by cases f <;> rfl
  bins _ := .refl _
  ports g := by
    rw [State.port_setPort]
    split
    · rename_i e; cases e; exact h
    · exact .refl _
  feeders _ := .refl _

theorem State.roundFrame_send (s : State) (f : Feeder) (o : OutcomeRec) :
    s.RoundFrame (s.send (.feeder f) o) := by
  unfold State.send
  split
  · exact s.roundFrame_setPort _ _ ⟨rfl, rfl, ⟨[o], rfl⟩, fun _ _ => ⟨rfl, rfl⟩⟩
  · refine s.roundFrame_setPort _ _ ⟨rfl, rfl, ⟨[], by simp⟩, fun i hi => ?_⟩
    have : (Flag.outcomeLost.word).getLsbD i = false := by
      by_cases h16 : i < 16
      · interval_cases i <;> first | rfl | exact absurd rfl hi
      · exact BitVec.getLsbD_of_ge _ _ (Nat.le_of_not_lt h16)
    refine ⟨by simp only [PortRec.raise_flags, BitVec.getLsbD_or, this, Bool.or_false], ?_⟩
    by_cases h16 : i < 16
    · simp only [PortRec.raise_seen, BitVec.getLsbD_and, BitVec.getLsbD_not, this, h16, decide_true, Bool.not_false,
        Bool.and_true]
    · simp only [BitVec.getLsbD_of_ge _ _ (Nat.le_of_not_lt h16)]

theorem State.roundFrame_firstTurn (s : State) (f : Feeder) : s.RoundFrame { s with firstTurn := f } where
  mode := rfl
  pendingLayout := rfl
  activeLayout := rfl
  tracker := rfl
  reports := rfl
  lanes := rfl
  engine := rfl
  rules := rfl
  gates := rfl
  lotHolds := rfl
  counters := rfl
  now := rfl
  pending := rfl
  line := rfl
  bins _ := .refl _
  ports _ := .refl _
  feeders _ := .refl _

theorem BinRec.roundFrame_mark (r : BinRec) (n : StoreNo) (f : Option Feeder) : r.RoundFrame (r.mark n f) := by
  refine ⟨rfl, ?_⟩
  simp only [BinRec.mark, List.map_map]
  refine List.map_congr_left fun x _ => ?_
  simp only [Function.comp]
  split <;> rfl

theorem BinRec.roundFrame_claim (r : BinRec) (c : Option Feeder) : r.RoundFrame { r with claim := c } := ⟨rfl, rfl⟩

theorem State.roundFrame_clearClaim (s : State) (f : Feeder) : s.RoundFrame (s.clearClaim f) := by
  refine s.roundFrame_mapBins _ fun r => ?_
  split
  · exact r.roundFrame_claim _
  · exact .refl _

theorem State.roundFrame_claimTarget (s : State) (f : Feeder) (t : Option BinId) :
    s.RoundFrame (s.claimTarget f t) := by
  unfold State.claimTarget
  split
  · exact .refl _
  · split
    · exact s.roundFrame_setBin _ _ ((s.bin _).roundFrame_claim _)
    · exact .refl _

theorem FeederRec.roundFrame_withGrant (r : FeederRec) (g : Grant) : r.RoundFrame (r.withGrant g) := by
  unfold FeederRec.withGrant
  split <;> exact ⟨rfl, rfl, rfl⟩

theorem FeederRec.roundFrame_consumed (r : FeederRec) : r.RoundFrame r.consumed.1 := by
  unfold FeederRec.consumed
  split
  · exact ⟨rfl, rfl, rfl⟩
  · split <;> exact ⟨rfl, rfl, rfl⟩

theorem State.roundFrame_advanceRecipe (s : State) (f : Feeder) : s.RoundFrame (s.advanceRecipe f) := by
  unfold State.advanceRecipe
  dsimp only
  split
  · split
    · exact s.roundFrame_setFeeder _ _ ⟨rfl, rfl, rfl⟩
    · exact (s.roundFrame_setFeeder _ _ (FeederRec.roundFrame_consumed _)).trans (State.roundFrame_send _ _ _)
  · exact .refl _

theorem State.roundFrame_endComplete (s : State) (f : Feeder) (p : Bool) : s.RoundFrame (s.endComplete f p) := by
  unfold State.endComplete
  split
  · exact s.roundFrame_send _ _
  · split
    · exact s.roundFrame_send _ _
    · exact .refl _

theorem State.roundFrame_grantPly (s : State) (f : Feeder) (e : PlyEntry) (b : BinId) (x : Sheet) :
    s.RoundFrame (s.grantPly f e b x) := by
  unfold State.grantPly
  dsimp only
  have h := (s.roundFrame_setBin b _ ((s.bin b).roundFrame_mark x.store (some f))).trans
    (State.roundFrame_setFeeder _ f _ (FeederRec.roundFrame_withGrant _ ⟨e, b, x.store⟩))
  have h := (h.ite (c := (s.feeder f).waiting.isSome) (State.roundFrame_clearClaim _ f)).trans
    (State.roundFrame_send _ f (.grant x.store b x.cls e.origin e.reServed))
  exact ((h.ite (State.roundFrame_advanceRecipe _ f)).trans (State.roundFrame_endComplete _ f _)).trans
    (State.roundFrame_firstTurn _ _)

theorem State.roundFrame_startWait (s : State) (f : Feeder) (e : PlyEntry) : s.RoundFrame (s.startWait f e) := by
  unfold State.startWait
  refine .trans (State.roundFrame_setFeeder s f _ ?_) (State.roundFrame_claimTarget _ _ _)
  exact ⟨rfl, rfl, rfl⟩

theorem State.roundFrame_reconsider (s : State) (f : Feeder) (e : PlyEntry) (w : Wait) :
    s.RoundFrame (s.reconsider f e w) := by
  unfold State.reconsider
  dsimp only
  split
  · exact s.roundFrame_claimTarget _ _
  · refine .trans (s.roundFrame_clearClaim f) (.trans (State.roundFrame_setFeeder _ _ _ ?_)
      (State.roundFrame_claimTarget _ _ _))
    rw [State.feeder_congr (s := s) (by simp)]
    exact ⟨rfl, rfl, rfl⟩

theorem State.roundFrame_serveFeeder (s : State) (f : Feeder) : s.RoundFrame (s.serveFeeder f).1 := by
  unfold State.serveFeeder
  split
  · exact .refl _
  · split
    · exact s.roundFrame_grantPly _ _ _ _
    · split
      · exact s.roundFrame_startWait _ _
      · exact s.roundFrame_reconsider _ _ _

/-! ## The search round -/

theorem State.roundFrame_roundFrom (s : State) (k : Nat) (f : Feeder) (q : Nat) :
    s.RoundFrame (s.roundFrom k f q) := by
  induction k generalizing s f q with
  | zero => exact .refl _
  | succ k ih =>
    unfold State.roundFrom
    dsimp only
    split
    · exact (s.roundFrame_serveFeeder f).trans (ih _ _ _)
    · split
      · exact (s.roundFrame_serveFeeder f).trans (ih _ _ _)
      · exact s.roundFrame_serveFeeder f

/-- A search round, whichever feeder it takes first, changes nothing outside the Draw Arbiter's own state, the claims, the
reservation marks and the feeders' outcome queues (R147, R149, R153). -/
theorem State.roundFrame_searchRoundBy (s : State) (f : Feeder) : s.RoundFrame (s.searchRoundBy f) :=
  s.roundFrame_roundFrom _ _ _

theorem State.roundFrame_searchRound (s : State) : s.RoundFrame s.searchRound := s.roundFrame_searchRoundBy _

/-! ## What the frame gives -/

/-- A round leaves every inbound count as it was. -/
theorem State.RoundFrame.inbound {s t : State} (h : s.RoundFrame t) (b : BinId) : t.inbound b = s.inbound b := by
  have hb := (h.bins b).1
  unfold State.inbound
  rw [State.gate_congr h.gates, hb]

/-- A round leaves every stack's height as it was. -/
theorem State.RoundFrame.stack_length {s t : State} (h : s.RoundFrame t) (b : BinId) :
    (t.bin b).stack.length = (s.bin b).stack.length := by
  simpa using congrArg List.length (h.bins b).2

/-- A round leaves the three conditions as they were (R11, R104). -/
theorem State.RoundFrame.conditions {s t : State} (h : s.RoundFrame t) :
    t.laneDown = s.laneDown ∧ t.binCheck = s.binCheck ∧ t.binUncertain = s.binUncertain := by
  have hs : ∀ b, (t.bin b).state = (s.bin b).state := fun b => by rw [(h.bins b).1]
  have hu : ∀ b, (t.bin b).uncertain = (s.bin b).uncertain := fun b => by rw [(h.bins b).1]
  refine ⟨by unfold State.laneDown; rw [h.activeLayout, h.lanes], ?_, ?_⟩
  · show (binsInOrder.any fun b => (t.bin b).state == .check) = binsInOrder.any fun b => (s.bin b).state == .check
    simp only [hs]
  · show (binsInOrder.any fun b => (t.bin b).uncertain) = binsInOrder.any fun b => (s.bin b).uncertain
    simp only [hu]

/-- Conditions none of which has risen set no flag (R203). -/
theorem State.takeConditions_of_not_risen {s before : State} (h1 : s.laneDown = true → before.laneDown = true)
    (h2 : s.binCheck = true → before.binCheck = true) (h3 : s.binUncertain = true → before.binUncertain = true) :
    s.takeConditions before = s := by
  have fixed : ∀ (t : State) (g : Flag) (b a : Bool), (a = true → b = true) → t.raiseRisen g b a = t := by
    intro t g b a hab
    unfold State.raiseRisen
    cases a <;> cases b <;> simp_all
  unfold State.takeConditions
  rw [fixed _ _ _ _ h1, fixed _ _ _ _ h2, fixed _ _ _ _ h3]

end Sys2Proof.Machine
end

