-- ==== Sys2Proof/Laws/Ops.lean ====
section
/-! SUPPORT. What each shared operation can do, said once: the taking of a frame, the sending of an outcome, the choice of
the best of a list, the exchange of an armed swap, claims, blocked candidates, the events of a position and the next store
number. -/

namespace Sys2Proof.Machine

open Sys2Proof

/-! ## Taking a request frame -/

theorem takeFrame_ignored {code : Byte} {body : State → Reply × State} {p : Port} {f : Frame} {s : State}
    (h : (s.port p).parser ≠ .request) : takeFrame code body p f s = s := if_neg h

theorem takeFrame_good {code : Byte} {body : State → Reply × State} {p : Port} {f : Frame} {s : State}
    (h : (s.port p).parser = .request) (g : frameGood code f = true) :
    takeFrame code body p f s = (body s).2.setParser p (.preparing (body s).1.bytes) := by
  simp [takeFrame, h, g]

theorem takeFrame_bad {code : Byte} {body : State → Reply × State} {p : Port} {f : Frame} {s : State}
    (h : (s.port p).parser = .request) (g : frameGood code f = false) :
    takeFrame code body p f s = (s.raise p .frameError).setParser p (.preparing (Reply.bare .badFrame).bytes) := by
  simp [takeFrame, h, g]

/-- A frame built by `frameFor` with at most 120 payload bytes passes the frame check. -/
theorem frameGood_frameFor (code : Byte) (l : List Byte) (h : l.length ≤ 120) :
    frameGood code (frameFor code l) = true := by
  have : (u8 l.length).toNat = l.length := by simp [u8]; omega
  simp [frameGood, frameFor, requestCheck, Config.payloadMax, this, h]

theorem withoutPayload_nil (body : State → Reply × State) (s : State) : withoutPayload [] body s = body s := rfl

theorem withoutPayload_cons {l : List Byte} (h : l ≠ []) (body : State → Reply × State) (s : State) :
    withoutPayload l body s = refuse .badArg s := by
  cases l with
  | nil => exact absurd rfl h
  | cons _ _ => rfl

/-! ## Sending an outcome (R199) -/

theorem State.send_room {s : State} {p : Port} (h : (s.port p).outcomes.length < 8) (o : OutcomeRec) :
    s.send p o = s.setPort p { s.port p with outcomes := (s.port p).outcomes ++ [o] } := if_pos h

theorem State.send_full {s : State} {p : Port} (h : 8 ≤ (s.port p).outcomes.length) (o : OutcomeRec) :
    s.send p o = s.raise p .outcomeLost := if_neg (Nat.not_lt.2 h)

theorem State.port_send_ne (s : State) {p q : Port} (h : q ≠ p) (o : OutcomeRec) : (s.send p o).port q = s.port q := by
  unfold State.send
  split
  · exact s.port_setPort_ne h _
  · exact s.port_setPort_ne h _

/-- A sending keeps the parser and the mask of every port. -/
theorem State.send_parser_mask (s : State) (p q : Port) (o : OutcomeRec) :
    ((s.send p o).port q).parser = (s.port q).parser ∧ ((s.send p o).port q).mask = (s.port q).mask := by
  by_cases h : q = p
  · subst h
    unfold State.send
    split <;> simp
  · rw [s.port_send_ne h]
    exact ⟨rfl, rfl⟩

/-! ## The best of a list -/

theorem pickBest_eq_none {α : Type} (better : α → α → Bool) (l : List α) : pickBest better l = none ↔ l = [] := by
  cases l with
  | nil => simp [pickBest]
  | cons x xs =>
    simp only [pickBest, reduceCtorEq, iff_false]
    split
    · simp
    · split <;> simp

theorem pickBest_mem {α : Type} {better : α → α → Bool} {l : List α} {x : α} (h : pickBest better l = some x) :
    x ∈ l := by
  induction l generalizing x with
  | nil => simp [pickBest] at h
  | cons y ys ih =>
    simp only [pickBest] at h
    split at h
    · simp_all
    · split at h
      · cases h; exact List.mem_cons_of_mem _ (ih ‹_›)
      · cases h; exact List.mem_cons_self

/-- For a strict preference, nothing of the list is better than what is picked. -/
theorem pickBest_best {α : Type} {better : α → α → Bool} (irrefl : ∀ a, better a a = false)
    (asymm : ∀ a b, better a b = true → better b a = false)
    (trans : ∀ a b c, better a b = false → better b c = false → better a c = false) {l : List α} {x : α}
    (h : pickBest better l = some x) : ∀ y ∈ l, better y x = false := by
  induction l generalizing x with
  | nil => simp [pickBest] at h
  | cons z zs ih =>
    simp only [pickBest] at h
    split at h
    · rename_i hn
      cases h
      rw [pickBest_eq_none] at hn
      subst hn
      intro y hy
      simp only [List.mem_singleton] at hy
      exact hy ▸ irrefl _
    · rename_i w hw
      split at h
      · rename_i hb
        cases h
        intro y hy
        rcases List.mem_cons.1 hy with rfl | hy
        · exact asymm _ _ hb
        · exact ih hw y hy
      · rename_i hb
        cases h
        intro y hy
        rcases List.mem_cons.1 hy with rfl | hy
        · exact irrefl _
        · exact trans _ _ _ (ih hw y hy) (by simpa using hb)

/-! ## The exchange of an armed swap (R58, R69) -/

theorem State.exchangeIfDue_of_due {s : State} (h : s.rules.armed = true) (h' : s.engine = none) :
    s.exchangeIfDue = s.exchange := if_pos ⟨h, h'⟩

theorem State.exchangeIfDue_of_not_armed {s : State} (h : s.rules.armed = false) : s.exchangeIfDue = s :=
  if_neg fun h' => by simp [h] at h'

theorem State.exchangeIfDue_of_grading {s : State} (h : s.engine ≠ none) : s.exchangeIfDue = s :=
  if_neg fun h' => h h'.2

@[simp] theorem State.releaseEngine_engine (s : State) : s.releaseEngine.engine = none := by
  unfold State.releaseEngine State.exchangeIfDue
  split <;> rfl

@[simp] theorem State.releaseEngine_armed (s : State) : s.releaseEngine.rules.armed = false := by
  unfold State.releaseEngine State.exchangeIfDue
  split
  · rfl
  · rename_i h
    simpa using h

/-! ## Claims (R139, R149) -/

/-- A cleared claim: the feeder's name leaves every claim field, and nothing else of a bin changes. -/
theorem State.bin_clearClaim (s : State) (f : Feeder) (b : BinId) :
    (s.clearClaim f).bin b =
      { s.bin b with claim := if (s.bin b).claim = some f then none else (s.bin b).claim } := by
  rw [State.clearClaim, State.bin_mapBins]
  split <;> rfl

/-- A claimed target: the claim field of the target, when it carries none, takes the feeder's name. -/
theorem State.bin_claimTarget (s : State) (f : Feeder) (target : Option BinId) (b : BinId) :
    (s.claimTarget f target).bin b =
      { s.bin b with claim := if target = some b ∧ (s.bin b).claim = none then some f else (s.bin b).claim } := by
  rcases target with _ | c
  · simp [State.claimTarget]
  · by_cases h : c = b
    · subst h
      by_cases hc : (s.bin c).claim = none <;> simp [State.claimTarget, hc]
    · have hb : ¬b = c := fun h' => h h'.symm
      by_cases hc : (s.bin c).claim = none <;> simp [State.claimTarget, hc, h, State.bin_setBin_ne s hb]

/-! ## Blocked candidates (R148) -/

/-- The last record of a stack that passes a test, with none above it that does. -/
theorem find?_reverse_eq_some {α : Type} {p : α → Bool} {l : List α} {x : α} :
    l.reverse.find? p = some x ↔
      ∃ below above, l = below ++ x :: above ∧ (∀ y ∈ above, p y = false) ∧ p x = true := by
  rw [List.find?_eq_some_iff_append]
  constructor
  · rintro ⟨hp, as, bs, h, hn⟩
    exact ⟨bs.reverse, as.reverse, by simpa using congrArg List.reverse h,
      fun y hy => by simpa using hn y (by simpa using hy), hp⟩
  · rintro ⟨below, above, rfl, h, hp⟩
    exact ⟨hp, above.reverse, below.reverse, by simp, fun a ha => by simpa using h a (by simpa using ha)⟩

/-- The record taken as top is the highest unreserved one, whichever feeder holds the reservations above it. -/
theorem BinRec.takenTop_eq_some {r : BinRec} {f : Feeder} {x : Sheet} :
    r.takenTop f = some x ↔
      ∃ below above, r.stack = below ++ x :: above ∧ (∀ y ∈ above, y.reserved ≠ none) ∧ x.reserved = none := by
  unfold BinRec.takenTop BinRec.effectiveTop
  split
  · rw [find?_reverse_eq_some]
    simp only [beq_eq_false_iff_ne, beq_iff_eq]
  · rename_i h
    have own : ∀ y ∈ r.stack, y.reserved = some f ↔ y.reserved ≠ none := by
      intro y hy
      have : y.reserved ≠ some f.other := fun h' => h (by
        simp only [BinRec.reservedBy, List.any_eq_true, beq_iff_eq]
        exact ⟨y, hy, h'⟩)
      rcases hr : y.reserved with _ | k
      · simp
      · rw [hr] at this
        cases k <;> cases f <;> simp_all [Feeder.other]
    rw [find?_reverse_eq_some]
    refine exists_congr fun below => exists_congr fun above => and_congr_right fun e => ?_
    have hx : x ∈ r.stack := by rw [e]; simp
    have ha : ∀ y ∈ above, y ∈ r.stack := fun y hy => by rw [e]; simp [hy]
    simp only [bne_eq_false_iff_eq, bne_iff_ne]
    refine and_congr (forall₂_congr fun y hy => own y (ha y hy)) ?_
    rw [ne_eq, own x hx, not_not]

/-- A blocked candidate with its record taken as top (R148). -/
theorem State.blocked_eq_some {s : State} {f : Feeder} {spec : PlySpec} {b : BinId} {x : Sheet} :
    s.blocked f spec b = some x ↔ s.BlockedBin f spec b x := by
  have admits : spec.admits x = true ↔
      x.cls ∈ spec.classes ∧ (spec.width = none ∨ spec.width = some x.width) ∧ spec.species.getLsbD x.species = true ∧
        x.held = false := by
    unfold PlySpec.admits
    rcases spec.width with _ | w <;> simp [and_assoc]
  have working : (s.bin b).state.working = true ↔ ((s.bin b).state = .service ∨ (s.bin b).state = .drain) := by
    cases (s.bin b).state <;> simp [BinState.working]
  have reserved : (s.bin b).reservedBy f.other = true ↔ ∃ y ∈ (s.bin b).stack, y.reserved = some f.other := by
    simp [BinRec.reservedBy]
  unfold State.blocked State.BlockedBin
  rw [← working, ← reserved, ← admits, ← BinRec.takenTop_eq_some (f := f), ← and_assoc, ← Option.filter_eq_some_iff]
  dsimp only
  split
  · rename_i h
    exact ⟨fun h' => ⟨h, h'⟩, fun h' => h'.2⟩
  · rename_i h
    exact ⟨nofun, fun h' => absurd h'.1 h⟩

/-! ## Positions at which nothing is due -/

theorem State.longObjectEvent_of_not_due {s : State} (h : s.longDue = false) : s.longObjectEvent = s := by
  simp [State.longObjectEvent, h]

theorem State.expiryEvent_of_not_due {s : State} (h : ∀ r ∈ s.tracker.queue, r.expiryDue s.tracker.pos = false)
    (n : StoreNo) : s.expiryEvent n = s := by
  unfold State.expiryEvent
  split
  · rfl
  · rename_i r hr
    rw [h r (List.mem_of_find?_eq_some hr)]
    rfl

theorem State.endOfLineEvent_of_not_due {s : State} (h : ∀ r ∈ s.tracker.queue, r.endDue s.tracker.pos = false)
    (n : StoreNo) : s.endOfLineEvent n = s := by
  unfold State.endOfLineEvent
  split
  · rfl
  · rename_i r hr
    rw [h r (List.mem_of_find?_eq_some hr)]
    rfl

theorem State.gateOpenEvent_of_not_due {s : State} {b : BinId} (h : s.openDue b = false) : s.gateOpenEvent b = s := by
  simp [State.gateOpenEvent, h]

theorem State.gateCloseEvent_of_not_due {s : State} {b : BinId} (h : s.closeDue b = false) :
    s.gateCloseEvent b = s := by
  unfold State.gateCloseEvent State.closeDue at *
  split
  · rename_i e he
    rw [he] at h
    simp only [Option.any_some, beq_eq_false_iff_ne, ne_eq] at h
    simp [h]
  · rfl

theorem foldl_fixed {α β : Type} (f : β → α → β) (l : List α) (x : β) (h : ∀ a ∈ l, f x a = x) : l.foldl f x = x := by
  induction l with
  | nil => rfl
  | cons a l ih =>
    rw [List.foldl_cons, h a List.mem_cons_self]
    exact ih fun b hb => h b (List.mem_cons_of_mem _ hb)

theorem State.settlePosition_of_settled {s : State} (h : s.Settled) : s.settlePosition = s := by
  obtain ⟨h1, h2, h3⟩ := h
  unfold State.settlePosition
  dsimp only
  rw [State.longObjectEvent_of_not_due h1,
    foldl_fixed State.expiryEvent _ s fun n _ => State.expiryEvent_of_not_due (fun r hr => (h2 r hr).1) n,
    foldl_fixed State.gateOpenEvent _ s fun b _ => State.gateOpenEvent_of_not_due (h3 b).1,
    foldl_fixed State.gateCloseEvent _ s fun b _ => State.gateCloseEvent_of_not_due (h3 b).2,
    foldl_fixed State.endOfLineEvent _ s fun n _ => State.endOfLineEvent_of_not_due (fun r hr => (h2 r hr).2) n]

/-! ## Store numbers -/

/-- The counter never steps to 0. -/
theorem storeSucc_ne_zero (n : StoreNo) : storeSucc n ≠ 0 := by
  unfold storeSucc
  split
  · decide
  · rename_i h
    intro h0
    exact h (by bv_omega)

theorem freeStore_ne_zero (l : List StoreNo) (k : Nat) (n : StoreNo) : freeStore l k n ≠ 0 := by
  induction k generalizing n with
  | zero => exact storeSucc_ne_zero n
  | succ k ih =>
    unfold freeStore
    split
    · exact ih _
    · exact storeSucc_ne_zero n

end Sys2Proof.Machine
end

