-- ==== Sys2Proof/Tests/Slice0.lean ====
section
/-! SUPPORT. The tests: well-formedness refusals, frames decoded, the worked examples of spec/, and for every statement with
hypotheses the states and operands that meet them. Expected values come from the spec's own examples and tables. -/

namespace Sys2Proof.Tests

set_option Elab.async false

open Sys2Proof Sys2Proof.Machine

/-! ## Small states -/

/-- A state with a frame awaited on a port. -/
def on (p : Port) (s : State) : State := s.setParser p .request

theorem on_parser (p : Port) (s : State) : ((on p s).port p).parser = .request := by
  rcases p with _ | _ | _ <;> rfl

/-- Every payload of at most 120 bytes can be asked for with its right check byte. -/
theorem asks_on (p : Port) (code : Byte) (l : List Byte) (s : State) (h : l.length ≤ 120) :
    (on p s).asks p code (frameFor code l) := by
  refine ⟨on_parser p s, ?_, rfl⟩
  simp [frameFor, u8, BitVec.toNat_ofNat]
  omega

/-- The state a command leaves. -/
def after (r : Result) : State :=
  match r with
  | .next t => t
  | .fault _ => State.reset
  | .refused _ => State.reset

/-- The reply bytes prepared on a port. -/
def replyOn (p : Port) (s : State) : List Byte :=
  match (s.port p).parser with
  | .preparing r => r
  | .deselected => []
  | .request => []
  | .replying _ => []
  | .trailing => []
  | .discarding => []

/-- The reply and the state after a request with a payload on a port. -/
def ask (p : Port) (c : Port → Frame → Instr) (code : Byte) (l : List Byte) (s : State) : State :=
  after (exec (c p (frameFor code l)) (on p s))

/-- A class C sheet of store number `n`. -/
def sheet (n : Nat) : Sheet :=
  { store := BitVec.ofNat 16 n, lineId := 7, lot := 3, length := 1200, density := 10, cls := .C, width := .full
    species := 2, degraded := false, capped := false }

/-- A tracking record of store number `n` with its trailing edge. -/
def record (n : Nat) : TrackRec :=
  { store := BitVec.ofNat 16 n, lead := 100, trail := some ⟨1300, 1200, 17300⟩, expiryPos := 3700 }

/-- A report of 1200 mm covering all lanes, with no defect. -/
def report : Report :=
  { lineId := 7, lot := 3, species := 2, length := 1200, width := 1250, mask := 0xFF
    quality := Vector.replicate 8 95, moisture := Vector.replicate 8 50, defects := [] }

/-- A result of class C. -/
def result : GradeResult :=
  { cls := some .C, density := 10, moistMax := 50, moistMean := 50, width := some .full, degraded := false
    capped := false, reason := .knot, bank := .zero, serial := 0 }

/-- A paired and graded record for a bin. -/
def routed (n : Nat) (b : BinId) : TrackRec :=
  { record n with report := .graded, disp := .bin b, paired := some ⟨7, 3, 2, 1200⟩, result := some result }

/-- A grading of `report` for the record of store number 1. -/
def grading : Grading :=
  { report := report, store := 1, usable := 0xFF, usableCount := 8, coveredCount := 8, bank := .zero, serial := 0 }

/-- The part in RUN with these tracking records. -/
def tracking (q : List TrackRec) : State := { State.reset with mode := .run }.setQueue q

/-- A state with a swap armed. -/
def armed (s : State) : State := { s with rules := { s.rules with armed := true } }

/-- A FIXED class C bin in SERVICE with these sheets on its stack. -/
def bin (stack : List Sheet) : BinRec := { state := .service, mode := .fixed, current := some .C, stack := stack }

/-- A ply of class C, any width, species 0 to 15. -/
def ply : PlySpec := ⟨[.C], none, 0xFFFF⟩

/-- The bytes of `ply` (R125). -/
def plyBytes : List Byte := [2, 0xFF, 0xFF, 3, 0xFF, 0xFF]

/-- A recipe of two plies. -/
def recipe : Recipe := ⟨5, [ply, ply]⟩

/-- Feeder A with a recipe in its queue. -/
def loaded : State := State.reset.setFeeder .A { recipes := [recipe], position := some 1, groupSize := 2 }

/-! ## Ill-formed commands are refused -/

theorem test_wf_payload_length : (Instr.readLanes .line ⟨1, [], 0⟩).wf = false := by decide +kernel
theorem test_wf_listed_code : (Instr.badRequest .line 0x43 ⟨0, [], 0⟩).wf = false := by decide +kernel
theorem test_wf_landed_form : (Instr.resolveLanded .line ⟨2, [3, 1], 0⟩).wf = false := by decide +kernel
theorem test_wf_lost_form : (Instr.resolveLost .line ⟨2, [3, 0], 0⟩).wf = false := by decide +kernel
theorem test_wf_clear_form : (Instr.resolveClear .line ⟨2, [3, 0], 0⟩).wf = false := by decide +kernel
theorem test_wf_nothing_taken : (Instr.frameGivenUp .line []).wf = false := by decide +kernel
theorem test_wf_whole_frame : (Instr.frameGivenUp .line [0x43, 0x00, 0x64]).wf = false := by decide +kernel
theorem test_wf_ply_call : (Instr.plyCall (.feeder .A) (frameFor 0x43 [])).wf = true := by decide +kernel

/-! ## Frames (R184, R186, R191) -/

/-- The remainders of R186's two small frames. -/
theorem test_crc_examples :
    crc8 [0x43] = 0xCE ∧ crc8 [0x43, 0x00] = 0x64 ∧ crc8 [0x02] = 0x0E ∧ crc8 [0x02, 0x00] = 0x2A ∧
      crc8 [0x00, 0x00] = 0x00 := by decide +kernel

theorem test_decode_ply_call :
    decodeFrame (.feeder .A) [0x43, 0x00, 0x64] = some (.plyCall (.feeder .A) ⟨0x00, [], 0x64⟩) := by decide +kernel

theorem test_decode_pick_done :
    decodeFrame (.feeder .B) [0x45, 0x02, 0x12, 0x34, 0x99] =
      some (.pickDone (.feeder .B) ⟨0x02, [0x12, 0x34], 0x99⟩) := by decide +kernel

theorem test_decode_resolve_forms :
    decodeFrame .line [0x28, 0x02, 0x03, 0x00, 0x11] = some (.resolveLanded .line ⟨0x02, [0x03, 0x00], 0x11⟩) ∧
    decodeFrame .line [0x28, 0x02, 0x03, 0x01, 0x11] = some (.resolveLost .line ⟨0x02, [0x03, 0x01], 0x11⟩) ∧
    decodeFrame .line [0x28, 0x02, 0x03, 0x02, 0x11] = some (.resolveClear .line ⟨0x02, [0x03, 0x02], 0x11⟩) := by
  decide +kernel

theorem test_decode_families :
    decodeFrame .line [0x01, 0x00, 0x11] = some (.sheetReport .line ⟨0x00, [], 0x11⟩) ∧
    decodeFrame .line [0x12, 0x00, 0x11] = some (.ruleSwap .line ⟨0x00, [], 0x11⟩) ∧
    decodeFrame .line [0x1A, 0x00, 0x11] = some (.enterRun .line ⟨0x00, [], 0x11⟩) ∧
    decodeFrame .line [0x24, 0x01, 0x10, 0x11] = some (.binLock .line ⟨0x01, [0x10], 0x11⟩) ∧
    decodeFrame .line [0x31, 0x02, 0x00, 0x05, 0x11] = some (.lotRelease .line ⟨0x02, [0x00, 0x05], 0x11⟩) ∧
    decodeFrame .line [0x41, 0x01, 0x00, 0x11] = some (.recipeRead .line ⟨0x01, [0x00], 0x11⟩) ∧
    decodeFrame .line [0x55, 0x01, 0x3F, 0x11] = some (.clearCounters .line ⟨0x01, [0x3F], 0x11⟩) ∧
    decodeFrame .line [0x25, 0x00, 0x11] = some (.badRequest .line 0x25 ⟨0x00, [], 0x11⟩) ∧
    decodeFrame .line [0x43, 0x01, 0x64] = none := by decide +kernel

/-! ## The port (spec/10, A transaction, step by step) -/

/-- A PLY CALL while the call is GRANTED is answered 5A 02 00 2A and changes nothing. -/
theorem test_ply_call_busy :
    replyOn (.feeder .A) (ask (.feeder .A) .plyCall 0x43 [] (State.reset.setFeeder .A
      { grants := [⟨⟨ply, .call 5 1, false⟩, 0, 9⟩] })) = [0x5A, 0x02, 0x00, 0x2A] := by decide +kernel

/-- With the check byte 0x65 it is answered 5A 05 00 41, with FRAME_ERROR on Feeder Port A. -/
theorem test_bad_check_byte :
    (after (exec (.plyCall (.feeder .A) ⟨0, [], 0x65⟩) (on (.feeder .A) State.reset))).ports.feederA =
      { parser := .preparing [0x5A, 0x05, 0x00, 0x41], flags := 1 } := by decide +kernel

/-- With SEL rising after the length byte there is no reply, and FRAME_ERROR is set. -/
theorem test_frame_given_up :
    (after (exec (.frameGivenUp (.feeder .A) [0x43, 0x00]) (on (.feeder .A) State.reset))).ports.feederA =
      { flags := 1 } := by decide +kernel

/-! ## Lanes (spec/01, the worked example and the table of R13) -/

/-- The layout of the worked example: N_back 3, the other thresholds at their defaults. -/
def laneLayout : Layout := { nBack := 3 }

/-- The lane record after the twelve readings of the worked example, one by one. -/
theorem test_lane_sequence :
    ([72, 41, 64, 38, 22, 0, 85, 93, 88, 95, 91, 120].foldl
        (fun (out : LaneRec × List LaneState) q => (out.1.updated laneLayout q, out.2 ++ [(out.1.updated laneLayout q).state]))
        ({ errors := 12 }, [])) =
      ({ state := .good, errors := 16 },
        [.good, .suspect, .good, .suspect, .suspect, .lost, .lost, .recovering, .lost, .recovering, .recovering,
          .good]) := by decide +kernel

theorem test_error_bytes :
    [0, 9, 15, 16, 31, 32, 1000, 100000, 491520, 16777215].map errorByte =
      [0x00, 0x09, 0x0F, 0x18, 0x1F, 0x28, 0x6F, 0xDC, 0xFF, 0xFF] := by decide +kernel

/-! ## Grading (spec/03, the worked cases) -/

/-- Case 1: lane 5 lost. -/
theorem test_grading_case_1 :
    gradeReport {} .zero 0
      { report with
        length := 2540, width := 1270, moisture := #v[62, 71, 68, 80, 75, 250, 66, 70]
        defects := [⟨.soundKnot, 2, 18⟩, ⟨.soundKnot, 6, 31⟩, ⟨.split, 0, 120⟩, ⟨.stain, 3, 40⟩, ⟨.hole, 5, 12⟩] } 0xDF =
      { cls := some .D, density := 176, moistMax := 80, moistMean := 70, width := some .full, degraded := true
        capped := true, reason := .density, bank := .zero, serial := 0 } := by decide +kernel

/-- Case 2: the same sheet with every lane usable. -/
theorem test_grading_case_2 :
    gradeReport {} .zero 0
      { report with
        length := 2540, width := 1270, moisture := #v[62, 71, 68, 80, 75, 72, 66, 70]
        defects := [⟨.soundKnot, 2, 18⟩, ⟨.soundKnot, 6, 31⟩, ⟨.split, 0, 120⟩, ⟨.stain, 3, 40⟩, ⟨.hole, 5, 12⟩] } 0xFF =
      { cls := some .D, density := 184, moistMax := 80, moistMean := 71, width := some .full, degraded := false
        capped := false, reason := .knot, bank := .zero, serial := 0 } := by decide +kernel

/-- Case 3: the smallest area and a saturated density. -/
theorem test_grading_case_3 :
    gradeReport {} .zero 0
      { report with
        length := 300, width := 100, moisture := #v[85, 0, 0, 0, 0, 0, 0, 0]
        defects := List.replicate 24 ⟨.hole, 0, 300⟩ } 0x01 =
      { cls := some .N, density := 65535, moistMax := 85, moistMean := 85, width := some .strip, degraded := true
        capped := false, reason := .strip, bank := .zero, serial := 0 } := by decide +kernel

/-- Case 4: core at 20 mm and reject at 40 mm. -/
theorem test_grading_case_4 :
    ([20, 40].map fun n =>
        let x := gradeReport {} .zero 0
          { report with length := 1000, width := 1300, defects := List.replicate 10 ⟨.openKnot, 4, n⟩ } 0xFF
        (x.cls, x.density, x.reason)) =
      [(some .K, 923, .knot), (some .R, 1846, .knot)] := by decide +kernel

/-- Case 5: the mean rounds halves up, and a limit that is met does not make the sheet wet. -/
theorem test_grading_case_5 :
    ([(89, 90), (90, 91), (40, 120), (40, 121)].map fun m =>
        let x := gradeReport {} .zero 0
          { report with mask := 0x03, moisture := #v[m.1, m.2, 0, 0, 0, 0, 0, 0] } 0x03
        (x.moistMean, x.moistMax, x.cls == some .W)) =
      [(90, 90, false), (91, 91, true), (80, 120, false), (81, 121, true)] := by decide +kernel

/-- Case 6: a half-width sheet is capped, and a blind sheet is NO_SCAN. -/
theorem test_grading_case_6 :
    (gradeReport {} .zero 0 { report with width := 900, defects := [⟨.soundKnot, 2, 8⟩] } 0xFF).cls = some .C ∧
    (gradeReport {} .zero 0 { report with width := 900, defects := [⟨.soundKnot, 2, 8⟩] } 0xFF).capped = true ∧
    gradeReport {} .zero 0 { report with mask := 0x0C } 0x00 =
      { cls := none, density := 0, moistMax := 0, moistMean := 0, width := none, degraded := true, capped := false
        reason := .noScan, bank := .zero, serial := 0 } := by decide +kernel

/-! ## Routing (spec/05, the worked example and the first worked sequence) -/

/-- The bins of the worked example "choosing among candidates". -/
def exampleBins : State :=
  let b : BinRec := { state := .service, mode := .fixed, current := some .B }
  let many := fun n => List.replicate n { sheet 900 with cls := .B }
  let e : GateEntry := ⟨901, 9000, 9500, false⟩
  let s := State.reset.setBin 1 { b with stack := many 148 }
  let s := s.setGate 1 { lead := some ⟨901, 0, 10, true⟩, output := true }
  let s := s.setBin 2 { b with stack := many 60, claim := some .A }
  let s := s.setBin 5 { b with state := .drain, stack := many 95 }
  let s := s.setBin 7 { b with mode := .float, stack := many 90, inFlight := [⟨sheet 902, 500⟩] }
  let s := s.setGate 7 { lead := some ⟨901, 0, 10, true⟩, output := true }
  let s := s.setBin 11 { b with mode := .float, current := none }
  let s := s.setBin 12 { b with stack := many 30 }
  let s := s.setGate 12 { lead := some e, follow := some e }
  let s := s.setBin 13 { b with stack := many 149 }
  s.setBin 14 { b with stack := many 69 ++ [{ sheet 903 with reserved := some .B }] }

/-- Bin 2 is chosen; with bin 2 out of the way bin 14 is. -/
theorem test_router_choice :
    exampleBins.chooseBin .B 100 = some 1 ∧
      (exampleBins.setBin 1 { (exampleBins.bin 1) with state := .drain }).chooseBin .B 100 = some 13 := by
  decide +kernel

/-- The entry of record 701: bin 4, open position 24900, close position 27500. -/
theorem test_routed_entry :
    ((({ State.reset with tracker := { pos := 22600 } }.setBin 3 (bin [])).routeSheet
      { record 701 with lead := 20000, trail := some ⟨22400, 2400, 38400⟩ } .C).gate 3) =
      { lead := some ⟨701, 24900, 27500, false⟩ } := by decide +kernel

/-- At 24300 gate 4 takes record 702 behind 701 (open position 27600), and would not with open position 27450. -/
theorem test_gate_takes :
    (Gate.takes { lead := some ⟨701, 24900, 27500, false⟩ } 24300 27600) = true ∧
      (Gate.takes { lead := some ⟨701, 24900, 27500, false⟩ } 24300 27450) = false := by decide +kernel

/-- The close of 701 hands the sheet to bin 4 and moves 702 up. -/
theorem test_gate_close :
    let s := ((tracking [routed 701 3, routed 702 3]).setBin 3 (bin [])).setGate 3
      { lead := some ⟨701, 24900, 27500, true⟩, follow := some ⟨702, 27600, 29200, false⟩, output := true }
    let t := after (exec (.gateClose 3) { s with tracker := { s.tracker with pos := 27500 } })
    t.gate 3 = { lead := some ⟨702, 27600, 29200, false⟩ } ∧ (t.bin 3).inFlight = [⟨sheet 701, 500⟩] ∧
      t.tracked = [702] := by decide +kernel

/-! ## The Grade Store (spec/06, the worked sequence of a second failure) -/

/-- Bin 3 before the sequence. -/
def doubtful : State :=
  State.reset.setBin 2
    { state := .service, mode := .float, current := some .K, claim := some .A
      stack := [sheet 2001, sheet 2002, { sheet 2003 with held := true }, sheet 2004]
      inFlight := [⟨sheet 2010, 40⟩, ⟨sheet 2011, 60⟩] }

/-- Step 1: the first window expires. -/
def inDoubt : State := after (exec (.windowExpiry 2 2010) doubtful)

/-- Step 2: the second window expires. -/
def lockedOut : State := after (exec (.windowExpiry 2 2011) inDoubt)

theorem test_missed_drop :
    (inDoubt.bin 2).state = .check ∧ (inDoubt.bin 2).resume = some .service ∧
      (inDoubt.bin 2).questioned = some ⟨sheet 2010, 4⟩ ∧ (inDoubt.bin 2).inFlight = [⟨sheet 2011, 60⟩] ∧
      (inDoubt.bin 2).claim = some .A := by decide +kernel

theorem test_second_failure :
    (lockedOut.bin 2).state = .lockout ∧ (lockedOut.bin 2).questioned = none ∧ (lockedOut.bin 2).inFlight = [] ∧
      (lockedOut.bin 2).uncertain = true ∧ (lockedOut.bin 2).claim = none ∧
      lockedOut.counter .missedDrops = 2 ∧ lockedOut.counter .questionedDiscarded = 2 := by decide +kernel

/-- Steps 3 and 4: BIN SERVICE is refused WRONG_STATE and BIN REMOVE TOP of five BAD_ARG (5A 07 00 6B). -/
theorem test_locked_out_refusals :
    (ask .line .binService 0x23 [3] lockedOut).bins = lockedOut.bins ∧
      (replyOn .line (ask .line .binService 0x23 [3] lockedOut))[1]? = some 0x08 ∧
      (ask .line .binRemoveTop 0x27 [3, 5] lockedOut).bins = lockedOut.bins ∧
      (replyOn .line (ask .line .binRemoveTop 0x27 [3, 5] lockedOut))[1]? = some 0x07 := by decide +kernel

/-- Steps 5 to 7: one record removed, three unloaded, and the bin back in SERVICE without a class. -/
theorem test_unload_and_return :
    let t := ask .line .binUnload 0x26 [3] (ask .line .binRemoveTop 0x27 [3, 1] lockedOut)
    (replyOn .line t)[3]? = some 3 ∧ t.counter .unloaded = 4 ∧ (t.bin 2).current = none ∧
      (t.bin 2).uncertain = false ∧ ((ask .line .binService 0x23 [3] t).bin 2).state = .service := by decide +kernel

/-! ## More of the rules, one step each -/

/-- A forward pulse with a divide of 1 is a step of P (R16); a reverse one adds to the backlash (R17). -/
theorem test_pulses :
    (after (exec (.encPulse .forward) State.reset)).tracker.pos = 1 ∧
      (after (exec (.encPulse .reverse) State.reset)).tracker.backlash = 1 ∧
      (after (exec (.encPulse .reverse) State.reset)).tracker.pos = 0 := by decide +kernel

/-- An eye edge in SETUP is an untracked object, and in RUN a record with store number 1 (R19, R20). -/
theorem test_eye_edges :
    (after (exec .eyeLeadingEdge State.reset)).tracker.eye = .blockedUntracked ∧
      (after (exec .eyeLeadingEdge (tracking []))).tracked = [1] ∧
      (after (exec .eyeTrailingEdge (after (exec .eyeLeadingEdge (tracking []))))).tracker.queue = [] := by
  decide +kernel

/-- A SHEET REPORT in SETUP is refused NOT_RUNNING and counted (R2). -/
theorem test_report_in_setup :
    replyOn .line (ask .line .sheetReport 0x01 [] State.reset) = (Reply.bare .notRunning).bytes ∧
      (ask .line .sheetReport 0x01 [] State.reset).counter .reportsRefused = 1 := by decide +kernel

/-- A pairing within the tolerance of 25 mm starts the grading, and outside it the report is an orphan (R27, R29). -/
theorem test_pairing :
    (after (exec .pairingDecision { tracking [record 1] with
      reports := [{ report with length := 1225 }] })).engine.isSome = true ∧
    (after (exec .pairingDecision { tracking [record 1] with
      reports := [{ report with length := 1226 }] })).engine = none ∧
    (after (exec .pairingDecision { tracking [record 1] with
      reports := [{ report with length := 1226 }] })).counter .orphans = 1 := by decide +kernel

/-- A completion routes a class C sheet to the FIXED bin of its class (R53, R79). -/
theorem test_completion :
    let s := (tracking [{ record 1 with report := .grading, paired := some ⟨7, 3, 2, 1200⟩ }]).setBin 3
      { bin [] with current := some .A }
    let t := after (exec .gradingCompletion { s with engine := some grading })
    t.engine = none ∧ (t.gate 3).carried = [1] ∧ t.counter (.graded .A) = 1 := by decide +kernel

/-- The completion of a grading with a swap armed leaves the engine IDLE and the banks exchanged, so an ENTER SETUP behind it
finds no swap armed (R58, R69, R179). -/
theorem test_armed_completion :
    let t := after (exec .gradingCompletion (armed { tracking [] with engine := some grading }))
    t.engine = none ∧ t.rules.active = .one ∧ t.rules.armed = false ∧ t.rules.serial = 1 ∧
      (t.port (.feeder .B)).flags = Flag.swapDone.word ∧
      (ask .line .enterSetup 0x1B [] t).mode = .setup := by decide +kernel

/-- RULE SWAP with the engine IDLE exchanges at once and gives the new serial (R67). -/
theorem test_rule_swap :
    (ask .line .ruleSwap 0x12 [] State.reset).rules.active = .one ∧
      (replyOn .line (ask .line .ruleSwap 0x12 [] State.reset)).take 6 = [0x5A, 0x00, 0x03, 0x00, 0x00, 0x01] := by
  decide +kernel

/-- A PLY CALL grants its plies from the top down, with a GRANT outcome each and a CALL END (R143, R147, R155). -/
theorem test_ply_call :
    let t := ask (.feeder .A) .plyCall 0x43 [] (loaded.setBin 0 (bin [sheet 11, sheet 12]))
    (t.feeder .A).grants.map (·.store) = [12, 11] ∧ (t.feeder .A).unserved = [] ∧
      t.ports.feederA.outcomes =
        [.grant 12 0 .C (.call 5 1) false, .grant 11 0 .C (.call 5 2) false,
          .recipeConsumed 5 .empty 0 0, .callEnd .complete false false 2 0 0] := by decide +kernel

/-- A ply with no sheet waits for the full timeout of 10 s (R149). -/
theorem test_wait :
    (ask (.feeder .A) .plyCall 0x43 [] loaded).feeders.a.waiting = some ⟨none, 10000⟩ := by decide +kernel

/-- A pick takes the top record and answers with it (R159). -/
theorem test_pick_done :
    let s := (State.reset.setBin 0 (bin [sheet 11, { sheet 12 with reserved := some .A }])).setFeeder .A
      { grants := [⟨⟨ply, .call 5 1, false⟩, 0, 12⟩] }
    let t := ask (.feeder .A) .pickDone 0x45 [0, 12] s
    (t.bin 0).stack = [sheet 11] ∧ (t.feeder .A).grants = [] ∧ t.counter (.picks .A) = 1 := by decide +kernel

/-- A stray landing puts the bin in CHECK and sets STRAY_LANDING and BIN_CHECK (R100). -/
theorem test_stray_landing :
    let t := after (exec (.landPulse 0) (State.reset.setBin 0 (bin [sheet 11])))
    (t.bin 0).state = .check ∧ (t.bin 0).stray = true ∧ t.ports.line.flags = 0x2800 := by decide +kernel

/-- LAYOUT WRITE clamps a divide of 3 to 2 and answers CLAMPED (R173). -/
theorem test_layout_write :
    let t := ask .line .layoutWrite 0x18
      [0, 8, 3, 0x0E, 0x10, 0, 100, 0, 100, 0x3E, 0x80, 25, 0x01, 0xF4, 60, 90, 3, 8] State.reset
    t.pendingLayout = { divide := 2 } ∧ (replyOn .line t).take 3 = [0x5A, 0x01, 0x12] := by decide +kernel

/-- ENTER RUN with the default layout fits no bin and eight lanes (R177). -/
theorem test_enter_run :
    (ask .line .enterRun 0x1A [] State.reset).mode = .run ∧
      (replyOn .line (ask .line .enterRun 0x1A [] State.reset)).take 5 = [0x5A, 0x00, 0x02, 0x00, 0x08] := by
  decide +kernel

/-! ## The statements' hypotheses are met -/

/-- Bin 1 with record 12 reserved by feeder A on top, for the call grant of it and for the patch grant of it. -/
def picking (patch : Bool) : State :=
  (State.reset.setBin 0 (bin [{ sheet 11 with reserved := some .A }, { sheet 12 with reserved := some .A }])).setFeeder .A
    (if patch then { grants := [⟨⟨ply, .call 5 1, false⟩, 0, 11⟩], patch := .granted ⟨⟨ply, .patch, false⟩, 0, 12⟩ }
    else { grants := [⟨⟨ply, .call 5 1, false⟩, 0, 12⟩, ⟨⟨ply, .call 5 2, false⟩, 0, 11⟩] })

theorem witness_StepTakesFrontCommand :
    ({ State.reset with pending := [.encPulse .forward] } : State).pending = .encPulse .forward :: [] := rfl

theorem witness_SelectionCycle :
    (State.reset.port .line).parser = .deselected ∧ ((on .line State.reset).port .line).parser = .request ∧
      ((State.reset.setParser .line (.preparing [0x5A])).port .line).parser = .preparing [0x5A] ∧
      ((State.reset.setParser .line (.replying [0x5A])).port .line).parser = .replying [0x5A] ∧
      ((State.reset.setParser .line .trailing).port .line).parser = .trailing ∧
      ((State.reset.setParser .line .discarding).port .line).parser = .discarding := ⟨rfl, rfl, rfl, rfl, rfl, rfl⟩

theorem witness_SelectReleasedEarly :
    ((on (.feeder .B) State.reset).port (.feeder .B)).parser = .request ∧ ([0x43] : List Byte) ≠ [] ∧
      ((State.reset.setParser .line .discarding).port .line).parser = .discarding := ⟨rfl, by decide, rfl⟩

/-- A parser that is not in REQUEST, a length of 121 and a wrong check byte. -/
theorem witness_FrameCheckComesFirst :
    (Instr.readLanes .line (frameFor 0x56 [])).request? = some (.line, 0x56, frameFor 0x56 []) ∧
      (State.reset.port .line).parser ≠ .request ∧ ((on .line State.reset).port .line).parser = .request ∧
      120 < (⟨121, [], 0⟩ : Frame).length.toNat ∧ (0x65 : Byte) ≠ crc8 [0x43, 0x00] := by decide +kernel

/-- An unlisted code, the first and the last feeder request on the Line Port, and a report on a feeder port. -/
theorem witness_UnacceptedRequests :
    (on .line State.reset).asks .line 0x25 (frameFor 0x25 []) ∧
      ((on .line State.reset).asks .line 0x40 (frameFor 0x40 []) ∧
        (Instr.recipeLoad .line (frameFor 0x40 [])).wf = true ∧
        (Instr.recipeLoad .line (frameFor 0x40 [])).request? = some (.line, 0x40, frameFor 0x40 [])) ∧
      ((on .line State.reset).asks .line 0x48 (frameFor 0x48 []) ∧
        (Instr.callStatus .line (frameFor 0x48 [])).wf = true ∧
        (Instr.callStatus .line (frameFor 0x48 [])).request? = some (.line, 0x48, frameFor 0x48 [])) ∧
      (on (.feeder .A) State.reset).asks (.feeder .A) 0x01 (frameFor 0x01 []) :=
  ⟨asks_on _ _ _ _ (by decide), ⟨asks_on _ _ _ _ (by decide), by decide +kernel, rfl⟩,
    ⟨asks_on _ _ _ _ (by decide), by decide +kernel, rfl⟩, asks_on _ _ _ _ (by decide)⟩

theorem witness_FrameDecodesToItsCommand :
    (Instr.binDrain .line (frameFor 0x22 [16])).wf = true ∧
      (Instr.binDrain .line (frameFor 0x22 [16])).request? = some (.line, 0x22, frameFor 0x22 [16]) :=
  ⟨by decide +kernel, rfl⟩

theorem witness_CheckByteSeesOneChangedByte : (0x64 : Byte) ≠ 0x65 := by decide

/-- Each request with its right payload and with a wrong one; a queue with room and a full one. -/
theorem witness_PortRequests :
    (∀ c ∈ [(0x50 : Byte), 0x51, 0x53], (on .line State.reset).asks .line c (frameFor c [0])) ∧
    ((on .line State.reset).asks .line 0x50 (frameFor 0x50 []) ∧ ((on .line State.reset).port .line).outcomes = []) ∧
    (let s := State.reset.setPort .line { outcomes := [.orphan 7 1200] }
     (on .line s).asks .line 0x50 (frameFor 0x50 []) ∧ ((on .line s).port .line).outcomes = .orphan 7 1200 :: []) ∧
    (on .line State.reset).asks .line 0x51 (frameFor 0x51 []) ∧
    (((State.reset.setPort .line { outcomes := List.replicate 7 (.orphan 7 1200) }).port .line).outcomes.length < 8 ∧
      8 ≤ ((State.reset.setPort .line { outcomes := List.replicate 8 (.orphan 7 1200) }).port .line).outcomes.length) ∧
    ((on .line State.reset).asks .line 0x53 (frameFor 0x53 (be16 (0xFFFF#16).toNat)) ∧
      (frameFor 0x53 (be16 (0xFFFF#16).toNat)).payload = be16 (0xFFFF#16).toNat) :=
  ⟨fun _ _ => asks_on _ _ _ _ (by simp), ⟨asks_on _ _ _ _ (by decide), rfl⟩, ⟨asks_on _ _ _ _ (by decide), rfl⟩,
    asks_on _ _ _ _ (by decide), by decide, asks_on _ _ _ _ (by decide), rfl⟩

/-- A flag that is seen (LATE), and one that is set but not seen (ORPHAN). -/
theorem witness_ClearFlagsRemovesSeenFlags :
    let s := State.reset.setPort .line { flags := 0x60, seen := 0x40 }
    (on .line s).asks .line 0x52 (frameFor 0x52 [0x60]) ∧
      (on .line s).asks .line 0x52 (frameFor 0x52 (be16 (0x60#16).toNat)) ∧
      (frameFor 0x52 (be16 (0x60#16).toNat)).payload = be16 (0x60#16).toNat ∧
      ((on .line s).port .line).Sound .line ∧
      ((0x60#16).getLsbD 6 = true ∧ ((on .line s).port .line).seen.getLsbD 6 = true) ∧
      ¬((0x60#16).getLsbD 5 = true ∧ ((on .line s).port .line).seen.getLsbD 5 = true) :=
  ⟨asks_on _ _ _ _ (by decide), asks_on _ _ _ _ (by decide), rfl,
    ⟨by decide, by decide, by decide, fun _ => by decide⟩, by decide, by decide⟩

theorem witness_ClearCountersClearsNamedGroups :
    (∀ l ∈ [([] : List Byte), [63], [64]], (on .line State.reset).asks .line 0x55 (frameFor 0x55 l)) ∧
      (frameFor 0x55 [63]).payload = [63] ∧ (63 : Byte).toNat ≤ 63 ∧ 63 < (64 : Byte).toNat := by
  refine ⟨fun l hl => asks_on _ _ _ _ ?_, rfl, by decide, by decide⟩
  revert l
  decide

/-- A refused request: BIN DRAIN on an OFF bin. -/
theorem witness_RefusedRequestsChangeNothing :
    (Instr.binDrain .line (frameFor 0x22 [1])).request? = some (.line, 0x22, frameFor 0x22 [1]) ∧
      (on .line State.reset).asks .line 0x22 (frameFor 0x22 [1]) ∧
      replyOn .line (ask .line .binDrain 0x22 [1] State.reset) = (Reply.bare .wrongState).bytes :=
  ⟨rfl, asks_on _ _ _ _ (by decide), by decide +kernel⟩

theorem feeders_reset : State.reset.FeedersSound := by
  intro f
  rcases f <;>
    exact ⟨⟨by decide, fun x hx => absurd hx List.not_mem_nil, trivial⟩,
      ⟨by decide, by decide, by decide, fun x hx => absurd hx List.not_mem_nil,
        fun x hx => absurd hx List.not_mem_nil, trivial, fun h => by cases h⟩⟩

theorem witness_RepliesFitTheLengthByte :
    (Instr.binRead .line (frameFor 0x20 [0xFF, 0xFF])).request? = some (.line, 0x20, frameFor 0x20 [0xFF, 0xFF]) ∧
      (on .line State.reset).asks .line 0x20 (frameFor 0x20 [0xFF, 0xFF]) ∧
      (on .line State.reset).QueuesBounded ∧ (on .line State.reset).FeedersSound :=
  ⟨rfl, asks_on _ _ _ _ (by decide), ⟨by decide, by decide, by decide, List.nodup_nil⟩, fun f => feeders_reset f⟩

/-- The bytes of a sheet record reserved by feeder B, of a routed record, and of three outcomes, written out from the layouts
of R194, R196, R197 and R198. -/
theorem test_record_bytes :
    { sheet 12 with held := true, reserved := some .B }.bytes = [0, 12, 0, 0, 0, 7, 0, 3, 0x04, 0xB0, 0, 10, 0x22, 0x50] ∧
    (routed 701 3).bytes = [0x02, 0xBD, 0, 100, 0x05, 0x14, 0x04, 0xB0, 0, 0, 0, 7, 0x3A, 0x13, 2, 1] ∧
    (OutcomeRec.sheetDecided 7 701 (.runout .late) result).bytes =
      [0x01, 0, 0, 0, 7, 0x02, 0xBD, 0x20, 2, 0, 0, 10, 0, 50, 0, 50, 0, 1, 0, 0, 0] ∧
    (OutcomeRec.grant 12 15 .C (.call 5 1) true).bytes = [0x10, 0, 12, 16, 2, 0, 5, 1, 2] ∧
    (OutcomeRec.recipeConsumed 5 .repeated 1 5).bytes = [0x13, 0, 5, 1, 1, 0, 5] := by decide +kernel

/-- The summary of a bin in CHECK with a record on its stack, of one in flight and of an OFF bin, after R195; and the CALL
STATUS of a feeder that waits on bin 4, claims it and holds a grant, after R169. -/
theorem test_summary_and_status_bytes :
    (inDoubt.summary 2 = [3, 0x4B, 150, 4, 0x15, 0x28, 1] ∧ State.reset.summary 2 = [0, 0, 0, 0, 0, 0, 0]) ∧
    (let s := ((picking false).setFeeder .A { (picking false).feeder .A with
       recipes := [recipe], position := some 2, unserved := [⟨ply, .call 5 3, true⟩]
       waiting := some ⟨some 3, 1000⟩ }).setBin 3 { bin [] with claim := some .A }
     s.callStatus .A = [1, 0, 0, 5, 2, 0, 1, 0, 5, 0x83, 4, 4, 0x03, 0xE8, 1, 2, 1, 1, 0, 12, 0, 2, 1, 0, 11, 0]) := by
  decide +kernel

/-- READ TRACKING from record 23 and 24, READ LANES, READ COUNTERS of group 4 and 5, RULE READ of group 5 and 6, LAYOUT READ
of group 16 and 17; BIN READ, STACK READ of eight records and of none, LOT LIST, RECIPE READ and CALL STATUS; each with a payload of another length. For the layouts: a record before and after its trailing
edge, pairing and result, bins in every relation, and a feeder that waits with the one claim and one that claims nothing. -/
theorem witness_ReadRequests :
    (∀ c ∈ [((0x03 : Byte), [(23 : Byte)]), (0x03, [24]), (0x03, []), (0x56, []), (0x56, [0]), (0x54, [4]), (0x54, [5]),
        (0x54, [0, 0]), (0x11, [1, 5]), (0x11, [1, 6]), (0x11, [2, 0]), (0x11, [1]), (0x19, [1, 16]), (0x19, [1, 17]),
        (0x19, [2, 0]), (0x19, [0, 0, 0]), (0x20, [0, 1]), (0x20, []), (0x21, [16, 0]), (0x21, [16, 0, 8]), (0x21, [16, 0, 0]), (0x21, [17, 0, 1]), (0x32, []), (0x32, [0])],
      (on .line State.reset).asks .line c.1 (frameFor c.1 c.2)) ∧
    (∀ c ∈ [((0x41 : Byte), [(1 : Byte)]), (0x41, [2]), (0x41, []), (0x48, []), (0x48, [0])],
      (on (.feeder .B) State.reset).asks (.feeder .B) c.1 (frameFor c.1 c.2)) ∧
    (({ record 1 with trail := none }.trail = none ∧ (record 1).trail = some ⟨1300, 1200, 17300⟩) ∧
      ((record 1).paired = none ∧ (record 1).result = none) ∧
      ((routed 1 0).paired = some ⟨7, 3, 2, 1200⟩ ∧ (routed 1 0).result = some result)) ∧
    ((State.reset.bin 2).state = .off ∧ (inDoubt.bin 2).state ≠ .off ∧ (inDoubt.bin 2).holder = none ∧
      ((picking false).bin 0).holder = some .A) ∧
    (let s := (State.reset.setFeeder .A
       { unserved := [⟨ply, .call 5 1, false⟩], waiting := some ⟨some 3, 9⟩ }).setBin 3 { bin [] with claim := some .A }
     (s.feeder .A).waiting = some ⟨some 3, 9⟩ ∧ (s.feeder .A).front = some ⟨ply, .call 5 1, false⟩ ∧
       (s.bin 3).claim = some .A ∧ (∀ b, (s.bin b).claim = some .A → b = 3) ∧ (∀ b, (s.bin b).claim ≠ some .B) ∧
       (s.feeder .B).waiting = none) ∧
    ((picking true).feeder .A).allGrants[1]? = some ⟨⟨ply, .patch, false⟩, 0, 12⟩ ∧ recipe.plies[1]? = some ply := by
  refine ⟨?_, ?_, by decide +kernel, by decide +kernel, by decide +kernel, by decide +kernel, by decide +kernel⟩ <;>
    intro c hc <;> refine asks_on _ _ _ _ ?_ <;> revert c <;> decide +kernel

/-- A report of the smallest and one of an oversized defect: accepted in RUN with three waiting; NOT_RUNNING, BAD_ARG and
FULL. The payload is the one of `report` with one defect of 1100 mm. -/
def reportBytes : List Byte :=
  [0, 0, 0, 7, 0, 3, 2, 0x04, 0xB0, 0x04, 0xE2, 0xFF] ++ List.replicate 8 95 ++
    [0, 50, 0, 50, 0, 50, 0, 50, 0, 50, 0, 50, 0, 50, 0, 50] ++ [1, 0x04, 0x04, 0x4C]

theorem witness_SheetReport :
    ((on .line { tracking [] with reports := [report, report, report] }).asks .line 0x01 (frameFor 0x01 reportBytes) ∧
      (reportOf 8 (frameFor 0x01 reportBytes).payload).isSome = true) ∧
    ((on .line State.reset).asks .line 0x01 (frameFor 0x01 []) ∧ (on .line State.reset).mode = .setup) ∧
    ((on .line (tracking [])).asks .line 0x01 (frameFor 0x01 []) ∧ reportOf 8 (frameFor 0x01 []).payload = none) ∧
    ((on .line { tracking [] with reports := [report, report, report, report] }).asks .line 0x01
      (frameFor 0x01 reportBytes)) :=
  ⟨⟨asks_on _ _ _ _ (by decide), by decide +kernel⟩, ⟨asks_on _ _ _ _ (by decide), rfl⟩,
    ⟨asks_on _ _ _ _ (by decide), by decide +kernel⟩, asks_on _ _ _ _ (by decide)⟩

/-- Sound lane records in the four states, the runs one short of their thresholds, and an error count that stands at its
greatest value. -/
theorem witness_LaneTransitionTable :
    (1 ≤ laneLayout.nLost ∧ 1 ≤ laneLayout.nBack ∧ laneLayout.qLow < laneLayout.qHigh) ∧
      (⟨.good, 0, 0, 16777215⟩ : LaneRec).Sound laneLayout ∧ (⟨.suspect, 2, 0, 2⟩ : LaneRec).Sound laneLayout ∧
      (⟨.lost, 0, 0, 3⟩ : LaneRec).Sound laneLayout ∧ (⟨.recovering, 0, 2, 3⟩ : LaneRec).Sound laneLayout ∧
      59 < laneLayout.qLow ∧ laneLayout.qLow ≤ 60 ∧ 89 < laneLayout.qHigh ∧ laneLayout.qHigh ≤ 90 := by
  unfold LaneRec.Sound
  decide

theorem witness_ErrorCountByte : (491519 ≤ 16777215 ∧ 491519 < 491520) ∧ 16777215 ≤ 16777215 ∧ 491520 ≤ 16777215 := by
  decide

/-- A state with this backlash and nothing due. -/
def backed (n : Nat) : State := { State.reset with tracker := { backlash := n } }

theorem settled_backed (n : Nat) : (backed n).Settled :=
  ⟨rfl, fun r hr => absurd hr List.not_mem_nil, fun b => by
    simp [State.openDue, State.closeDue, State.gate, backed, State.reset]⟩

/-- A state with the eye blocked by a tracked object of `n` mm, at 3100, and the greatest backlash. -/
def blocked (n : Nat) : State :=
  { tracking [] with
    tracker := { pos := 3100, backlash := 200, eye := .blockedTracked n, queue := [{ record 1 with trail := none }] } }

/-- The greatest backlash with a sheet's gate entry to come. -/
def gated : State := (backed 200).setGate 3 { lead := some ⟨701, 24900, 27500, false⟩ }

/-- A pulse short of the fault; the fault with nothing due, with an entry in a gate, and with the long-object check due. -/
theorem witness_EncoderPulsesAndReversalFault :
    ((backed 199).Settled ∧ (backed 199).tracker.backlash < 200) ∧
      ((backed 200).Settled ∧ (backed 200).tracker.residue = 0 ∧ (backed 200).tracker.backlash = 200 ∧
        ∀ b, (backed 200).inbound b = 0) ∧
      (gated.Settled ∧ gated.tracker.residue = 0 ∧ gated.tracker.backlash = 200 ∧ 0 < gated.inbound 3 ∧
        (gated.bin 3).inFlight = []) ∧
      ((blocked 3000).longDue = true ∧ (blocked 3000).tracker.residue = 0 ∧ (blocked 3000).tracker.backlash = 200) :=
  ⟨⟨settled_backed 199, by decide⟩, ⟨settled_backed 200, rfl, rfl, by decide +kernel⟩,
    ⟨⟨by decide +kernel, fun r hr => absurd hr List.not_mem_nil, by decide +kernel⟩, by decide +kernel, by decide +kernel,
      by decide +kernel, by decide +kernel⟩, by decide +kernel⟩

theorem witness_EyeEdges :
    (State.reset.tracker.eye = .clear ∧ State.reset.mode = .setup) ∧
      ((tracking (List.replicate 24 (record 1))).tracker.eye = .clear ∧
        24 ≤ (tracking (List.replicate 24 (record 1))).tracker.queue.length) ∧
      ((tracking (List.replicate 23 (record 1))).mode = .run ∧
        (tracking (List.replicate 23 (record 1))).tracker.queue.length < 24) ∧
      ({ State.reset with tracker := { eye := .blockedUntracked } } : State).tracker.eye = .blockedUntracked ∧
      ((blocked 299).tracker.eye = .blockedTracked 299 ∧ (blocked 299).tracker.queue = [] ++ [{ record 1 with trail := none }]) ∧
      (blocked 300).tracker.eye = .blockedTracked 300 :=
  ⟨⟨rfl, rfl⟩, ⟨rfl, by decide⟩, ⟨rfl, by decide⟩, rfl, ⟨rfl, rfl⟩, rfl⟩

theorem witness_NextStoreNumberIsFree : State.reset.carried.length < 65535 := by decide +kernel

/-- A tracking state at position `p` whose middle record is `r`. -/
def at' (p : Pos) (r : TrackRec) : State :=
  { tracking [record 1, r, record 3] with tracker := { pos := p, queue := [record 1, r, record 3] } }

/-- A long object at 3100; an expiry at 3700, pending and not; ends of line at 17300 by report state. -/
theorem witness_RecordDeadlines :
    (let s : State := { tracking [] with
        tracker := { pos := 3100, eye := .blockedTracked 3000, queue := [{ record 1 with trail := none }] } }
     s.tracker.eye = .blockedTracked 3000 ∧ s.tracker.queue = [] ++ [{ record 1 with trail := none }] ∧
       ({ record 1 with trail := none }).long = false ∧
       s.tracker.pos = ({ record 1 with trail := none }).lead + 3000) ∧
    (∀ d ∈ [Disposition.pending, .bin 2], ∀ r : TrackRec, r = { record 2 with disp := d } →
      (at' 3700 r).tracker.queue = [record 1] ++ r :: [record 3] ∧
        (∀ x ∈ [record 1] ++ [record 3], x.store ≠ r.store) ∧ r.expiryPos = (at' 3700 r).tracker.pos ∧
        r.expiryTaken = false) ∧
    (∀ y ∈ [(ReportState.none, false), (.none, true), (.skipped, false), (.grading, false), (.graded, false)],
      ∀ r : TrackRec, r = { record 2 with disp := .runout .late, report := y.1, long := y.2 } →
      (at' 17300 r).tracker.queue = [record 1] ++ r :: [record 3] ∧
        (∀ x ∈ [record 1] ++ [record 3], x.store ≠ r.store) ∧ r.trail = some ⟨1300, 1200, 17300⟩ ∧
        (17300 : Pos) = (at' 17300 r).tracker.pos) := by
  refine ⟨⟨rfl, rfl, rfl, by decide⟩, fun d _ r h => ?_, fun y _ r h => ?_⟩
  · subst h
    exact ⟨rfl, by simp [record], rfl, rfl⟩
  · subst h
    exact ⟨rfl, by simp [record], rfl, rfl⟩

/-- The head report 25 mm and 26 mm from the first candidate, with a second candidate that fits and one that does not, with
none, and with a first candidate still at the eye. -/
theorem witness_PairingDecision :
    let short : TrackRec := { record 1 with trail := some ⟨1274, 1174, 17300⟩ }
    let edge : TrackRec := { record 1 with trail := some ⟨1275, 1175, 17300⟩ }
    let free := fun (q : List TrackRec) =>
      { tracking q with reports := [report] }
    (∀ q, (free q).reports = report :: [] ∧ (free q).engine = none ∧ (free q).rules.armed = false) ∧
    ((free [{ record 1 with trail := none }]).tracker.queue.filter (fun x => x.report == .none && !x.long) =
      [{ record 1 with trail := none }]) ∧
    ((free [edge]).tracker.queue.filter (fun x => x.report == .none && !x.long) = [edge] ∧
      1175 + (free [edge]).activeLayout.tolerance = report.length) ∧
    ((free [short, record 2]).tracker.queue.filter (fun x => x.report == .none && !x.long) = [short, record 2] ∧
      ¬ report.length ≤ 1174 + (free [short, record 2]).activeLayout.tolerance ∧ (record 2).store ≠ short.store) ∧
    ((free [short, { short with store := 2 }]).tracker.queue.filter (fun x => x.report == .none && !x.long) =
      [short, { short with store := 2 }]) ∧
    ((free []).tracker.queue.filter (fun x => x.report == .none && !x.long) = []) := by
  refine ⟨fun q => ⟨rfl, rfl, rfl⟩, ?_, ?_, ?_, ?_, ?_⟩ <;> decide +kernel

theorem witness_LineRestart :
    (on .line State.reset).asks .line 0x02 (frameFor 0x02 [0]) ∧
      (let s := { tracking [record 1] with rules := { armed := true } }
       (on .line s).asks .line 0x02 (frameFor 0x02 []) ∧ (on .line s).rules.armed = true) ∧
      ((on .line gated).asks .line 0x02 (frameFor 0x02 []) ∧ 0 < (on .line gated).inbound 3 ∧
        ((on .line gated).bin 3).inFlight = []) :=
  ⟨asks_on _ _ _ _ (by decide), ⟨asks_on _ _ _ _ (by decide), rfl⟩, asks_on _ _ _ _ (by decide), by decide +kernel,
    by decide +kernel⟩

/-- The part grading `report` for record 1, which has disposition `d`. -/
def gradingOf (d : Disposition) (g : Grading) : State :=
  { tracking [{ record 1 with report := .grading, paired := some ⟨7, 3, 2, 1200⟩, disp := d }, record 2] with
    engine := some g }

theorem witness_CompletionWithoutRouting :
    (({ tracking [record 2] with engine := some grading } : State).engine = some grading ∧
      ∀ y ∈ (tracking [record 2]).tracker.queue, y.store = grading.store → y.report ≠ .grading) ∧
    (∀ d ∈ [Disposition.runout .late, .pending], ∀ r : TrackRec,
      r = { record 1 with report := .grading, paired := some ⟨7, 3, 2, 1200⟩, disp := d } →
      (gradingOf d grading).tracker.queue = [] ++ r :: [record 2] ∧ r.store = grading.store ∧ r.report = .grading ∧
        ∀ y ∈ [] ++ [record 2], y.store ≠ r.store) ∧
    ((gradingOf .pending { grading with usable := 0 }).gradingResult { grading with usable := 0 }).cls = none ∧
    ((gradingOf .pending grading).rules.armed = false ∧ (armed (gradingOf .pending grading)).rules.armed = true) := by
  refine ⟨⟨rfl, by decide +kernel⟩, fun d _ r h => ?_, by decide +kernel, rfl, rfl⟩
  subst h
  exact ⟨rfl, rfl, rfl, by simp [record]⟩

/-- A class A sheet whose lot is held, one that finds no bin, and one that finds bin 4. -/
theorem witness_CompletionRoutes :
    let s := gradingOf .pending grading
    let r : TrackRec := { record 1 with report := .grading, paired := some ⟨7, 3, 2, 1200⟩ }
    s.engine = some grading ∧ (s.gradingResult grading).cls = some .A ∧ s.tracker.queue = [] ++ r :: [record 2] ∧
      r.store = grading.store ∧ r.disp = .pending ∧ (∀ y ∈ [] ++ [record 2], y.store ≠ r.store) ∧
      r.trail = some ⟨1300, 1200, 17300⟩ ∧ (3 : LotNo) ∈ ({ s with lotHolds := [3] } : State).lotHolds ∧
      s.chooseBin .A r.lead = none ∧ (3 : LotNo) ∉ s.lotHolds ∧
      (s.setBin 3 { bin [] with current := some .A }).chooseBin .A r.lead = some 3 := by decide +kernel

/-- The width classes at the ends of their ranges (R42), and the first failing test where two fail (R48). -/
theorem test_width_and_first_test :
    [1200, 1199, 600, 599].map (widthClass {}) = [.full, .half, .half, .strip] ∧
      firstFailing ({} : Bank).grade[(0 : Fin 4)] ⟨0, 0, 1, 1, false⟩ = .opening ∧
      firstFailing ({} : Bank).grade[(0 : Fin 4)] ⟨21, 10, 0, 0, true⟩ = .stain := by decide +kernel

/-- The check that a bank fails first (R65): group 3 before group 4 and before W_half, a field before the next one, and
W_half at W_full. -/
theorem test_bank_fault :
    ({} : Bank).fault = none ∧ ({ wHalf := 1200 } : Bank).fault = some (5, 5) ∧
      ({ coreOpenMax := 9, wHalf := 1200 } : Bank).fault = some (5, 1) ∧
      ({ grade := #v[⟨10, 0, 0, false, 20⟩, ⟨25, 0, 150, true, 60⟩, ⟨40, 4, 149, false, 150⟩, ⟨39, 10, 800, true, 400⟩]
         wHalf := 1200 } : Bank).fault = some (3, 2) ∧
      ({ grade := #v[⟨10, 0, 0, true, 20⟩, ⟨10, 0, 0, false, 20⟩, ⟨40, 4, 400, true, 150⟩, ⟨65, 10, 800, true, 400⟩] } :
        Bank).fault = some (2, 3) := by decide +kernel

/-- A blind sheet, a wet one, a strip, a capped one that passes C, and one that fails every grade. -/
theorem witness_ClassDecision :
    usableList report.mask 0 = [] ∧ usableList report.mask 0xFF ≠ [] ∧
      (Bank.wetLaneLimit {} < (gradeReport {} .zero 0 { report with moisture := Vector.replicate 8 121 } 0xFF).moistMax) ∧
      widthClass {} 599 = .strip ∧ widthClass {} 600 = .half ∧
      (gradeReport {} .zero 0 { report with width := 600 } 0xFF).capped = true ∧
      (∀ i : Fin 4, firstFailing ({} : Bank).grade[i] ⟨923, 20, 10, 0, false⟩ ≠ .none) ∧
      firstFailing ({} : Bank).grade[(2 : Fin 4)] ⟨0, 8, 0, 0, false⟩ = .none := by decide +kernel

/-- The smallest and the greatest sheet of the bounds. -/
theorem witness_GradingFigureBounds :
    (∀ n ∈ [(300, 100), (3000, 1400)], ∀ r : Report,
      r = { report with length := n.1, width := n.2, defects := List.replicate 24 ⟨.hole, 0, 300⟩ } →
      usableList r.mask 0xFF ≠ [] ∧ 300 ≤ r.length ∧ r.length ≤ 3000 ∧ 100 ≤ r.width ∧ r.width ≤ 1400 ∧
        r.defects.length ≤ 24) ∧
    ∀ j : Fin 6, ({ weight := Vector.replicate 6 15 } : Bank).weight[j] ≤ 15 := by
  refine ⟨fun n hn r h => ?_, by decide⟩
  subst h
  revert n
  decide +kernel

/-- The standby bank not armed and armed; a payload of no group; groups 0, 4 and 5, with the stain byte at 1 and at 2. -/
theorem witness_RuleWrite :
    State.reset.rules.armed = false ∧ ({ State.reset with rules := { armed := true } } : State).rules.armed = true ∧
      ruleGroupLength 6 ≠ some 0 ∧
      (∀ l ∈ [([] : List Byte), [6], [0, 15, 15, 15, 15, 15, 16],
          u8 4 :: (be16 (1023#16).toNat ++ [24] ++ be16 (9999#16).toNat ++ [1] ++ be16 (65535#16).toNat),
          u8 4 :: (be16 (1023#16).toNat ++ [24] ++ be16 (9999#16).toNat ++ [2] ++ be16 (65535#16).toNat),
          5 :: (be16 (1200#16).toNat ++ [24] ++ be16 (400#16).toNat ++ be16 (400#16).toNat ++ be16 (1400#16).toNat ++
            be16 (100#16).toNat)],
        (on .line State.reset).asks .line 0x10 (frameFor 0x10 l)) := by
  refine ⟨rfl, rfl, by decide, fun l hl => asks_on _ _ _ _ ?_⟩
  revert l
  decide +kernel

theorem witness_RuleSwapAndExchange :
    (on .line State.reset).asks .line 0x12 (frameFor 0x12 [0]) ∧ (on .line State.reset).asks .line 0x12 (frameFor 0x12 []) ∧
      (State.reset.rules.bank State.reset.rules.active.other).fault = none ∧
      (({ wFull := 600 } : Bank).fault).isSome = true ∧
      (let s : State := { State.reset with rules := { armed := true } }
       s.rules.armed = true ∧ s.engine = none) ∧
      ((armed (gradingOf .pending grading)).rules.armed = true ∧
        (armed (gradingOf .pending grading)).engine = some grading) ∧
      ({ State.reset with engine := some grading } : State).engine ≠ none :=
  ⟨asks_on _ _ _ _ (by decide), asks_on _ _ _ _ (by decide), by decide +kernel, by decide +kernel, ⟨rfl, rfl⟩,
    ⟨rfl, rfl⟩, by simp⟩

theorem witness_RouterChoice :
    State.reset.chooseBin .B 100 = none ∧ exampleBins.chooseBin .B 100 = some 1 ∧
      (exampleBins.routeCandidate .B 100 13).isSome = true := by decide +kernel

/-- A gate with an unopened lead at its open position, and one with an opened lead at its close position and its record in
the queue, for a bin in SERVICE, and in LOCKOUT with a follow entry and with none. -/
theorem witness_GateWorkAndHandOver :
    (let s := { State.reset with tracker := { pos := 24900 } }.setGate 3 { lead := some ⟨701, 24900, 27500, false⟩ }
     (s.gate 3).lead = some ⟨701, 24900, 27500, false⟩ ∧ (24900 : Pos) = s.tracker.pos) ∧
    (∀ f ∈ [none, some (⟨702, 27600, 29200, false⟩ : GateEntry)], ∀ x ∈ [BinState.service, .lockout], ∀ s : State,
      s = (({ State.reset with tracker := { pos := 27500, queue := [routed 701 3, routed 702 3] } }.setGate 3
        { lead := some ⟨701, 24900, 27500, true⟩, follow := f, output := true }).setBin 3 { bin [] with state := x }) →
      (s.gate 3).lead = some ⟨701, 24900, 27500, true⟩ ∧ (27500 : Pos) = s.tracker.pos ∧
        s.tracker.queue = [] ++ routed 701 3 :: [routed 702 3] ∧ (routed 701 3).store = 701 ∧
        (∀ y ∈ [] ++ [routed 702 3], y.store ≠ (routed 701 3).store) ∧ (routed 701 3).sheet = some (sheet 701) ∧
        (s.bin 3).state = x) ∧
    ((routed 701 3).paired = some ⟨7, 3, 2, 1200⟩ ∧ (routed 701 3).result = some result ∧ result.cls = some .C ∧
      result.width = some .full) := by
  refine ⟨by decide +kernel, fun f hf x hx s h => ?_, by decide +kernel⟩
  subst h
  revert f x
  decide +kernel

/-- Bins in every state; in flight and not; with the reservations of one feeder: a call's, and a call's and a patch's. -/
theorem witness_LandingPulse :
    (State.reset.bin 0).state = .off ∧ (lockedOut.bin 2).state = .lockout ∧
      ((doubtful.bin 2).state = .service ∧ (doubtful.bin 2).inFlight = ⟨sheet 2010, 40⟩ :: [⟨sheet 2011, 60⟩]) ∧
      (let s := State.reset.setBin 0 (bin [sheet 11, { sheet 12 with reserved := some .A }])
       (s.bin 0).state = .service ∧ (s.bin 0).inFlight = [] ∧ (s.bin 0).holder = some .A ∧
         ∀ x ∈ (s.bin 0).stack, ∀ y ∈ (s.bin 0).stack, x.reserved.isSome → y.reserved.isSome → x.reserved = y.reserved) ∧
      (let s := State.reset.setBin 0 (bin [sheet 11])
       (s.bin 0).state = .service ∧ (s.bin 0).inFlight = [] ∧ ∀ x ∈ (s.bin 0).stack, x.reserved = none) ∧
      (let s := State.reset.setBin 0 { bin [] with state := .check, stray := true, resume := some .service }
       (s.bin 0).state = .check ∧ (s.bin 0).inFlight = []) ∧
      (∀ p ∈ [(true, [(⟨⟨ply, .patch, false⟩, 0, 12⟩ : Grant), ⟨⟨ply, .call 5 1, false⟩, 0, 11⟩]),
          (false, [⟨⟨ply, .call 5 1, false⟩, 0, 12⟩, ⟨⟨ply, .call 5 2, false⟩, 0, 11⟩])],
        ((picking p.1).bin 0).state = .service ∧ ((picking p.1).bin 0).inFlight = [] ∧
          (∀ x ∈ ((picking p.1).bin 0).stack, x.reserved = none ∨ x.reserved = some .A) ∧ p.2 ≠ [] ∧
          p.2.map (·.store) =
            (((picking p.1).bin 0).stack.reverse.filter fun x => x.reserved == some .A).map (·.store) ∧
          (p.2.map (·.store)).Nodup ∧ (∀ e ∈ p.2, e ∈ ((picking p.1).feeder .A).allGrants) ∧
          (((picking p.1).feeder .A).allGrants.map (·.store)).Nodup ∧
          ((picking p.1).port (.feeder .A)).outcomes.length + p.2.length ≤ 8) := by decide +kernel

theorem sound_picking (p : Bool) : ((picking p).feeder .A).CallSound := by
  have slot : ∀ q : Bool, match ((picking q).feeder .A).patch with
      | .empty => True
      | .unserved e => e.origin.isPatch = true
      | .granted g => g.entry.origin.isPatch = true := fun
    | true => rfl
    | false => trivial
  refine ⟨?_, ?_, ?_, ?_, ?_, slot p, ?_⟩ <;> revert p <;> decide +kernel

theorem witness_WindowExpiry :
    (∀ x ∈ [BinState.service, .drain, .check], ∀ s : State,
      s = { doubtful with now := 40 }.setBin 2 { (doubtful.bin 2) with state := x } →
      (s.bin 2).inFlight = [] ++ ⟨sheet 2010, 40⟩ :: [⟨sheet 2011, 60⟩] ∧ 40 ≤ s.now ∧ (s.bin 2).state = x) ∧
    ∀ y ∈ [] ++ [(⟨sheet 2011, 60⟩ : InFlight)], y.sheet.store ≠ (sheet 2010).store := by
  refine ⟨fun x hx s h => ?_, by decide +kernel⟩
  subst h
  revert x
  decide +kernel

/-- A bin in CHECK for a missed drop, one for a stray landing, and one in SERVICE; and payloads of another length, of bins 0
and 17 and of form 3. -/
theorem witness_BinResolve :
    (∀ l ∈ [([16] : List Byte), [0, 0], [17, 0], [16, 3]], (on .line inDoubt).asks .line 0x28 (frameFor 0x28 l)) ∧
    (∀ x ∈ [(0 : Byte), 1, 2], ∀ s ∈ [State.reset, inDoubt,
        State.reset.setBin 2 { bin [] with state := .check, stray := true, resume := some .drain }],
      (on .line s).asks .line 0x28 (frameFor 0x28 [u8 (binNumber 2), x])) ∧
    (State.reset.bin 2).state ≠ .check ∧
    ((inDoubt.bin 2).state = .check ∧ (inDoubt.bin 2).questioned = some ⟨sheet 2010, 4⟩ ∧
      (inDoubt.bin 2).resume = some .service ∧ (inDoubt.bin 2).stray = false) ∧
    (let s := State.reset.setBin 2 { bin [] with state := .check, stray := true, resume := some .drain }
     (s.bin 2).state = .check ∧ (s.bin 2).stray = true ∧ (s.bin 2).resume = some .drain ∧
       (s.bin 2).questioned = none) := by
  refine ⟨fun l hl => asks_on _ _ _ _ ?_, fun x hx s hs => asks_on _ _ _ _ (by simp), by decide +kernel,
    by decide +kernel, by decide +kernel⟩
  revert l
  decide

/-- Bin 16 in each of the five states, and in LOCKOUT in doubt with a record; with any payload of at most two bytes, among
them the one of the request, none, and those of bins 0 and 17. -/
theorem witness_BinStateRequests :
    (∀ c ∈ [(0x22 : Byte), 0x23, 0x24], ∀ (l : List Byte) (s : State), l.length ≤ 2 →
      (on .line s).asks .line c (frameFor c l)) ∧
    (16 < (17 : Byte).toNat ∧ [u8 (binNumber 15)] = [(16 : Byte)]) ∧
    (∀ x ∈ [BinState.off, .service, .drain, .check, .lockout],
      ((State.reset.setBin 15 { bin [] with state := x }).bin 15).state = x ∧
        (State.reset.setBin 15 { bin [] with state := x }).inbound 15 = 0) ∧
    (let s := State.reset.setBin 15 { bin [sheet 5] with state := .lockout, uncertain := true }
     (s.bin 15).uncertain = true ∧ (s.bin 15).stack ≠ []) := by
  refine ⟨fun c _ l s h => asks_on _ _ _ _ (by omega), by decide, by decide +kernel, by decide +kernel⟩

theorem witness_BinRemovals :
    (∀ c ∈ [((0x26 : Byte), ([] : List Byte)), (0x26, [17]), (0x27, [3]), (0x27, [0, 1])],
      (on .line lockedOut).asks .line c.1 (frameFor c.1 c.2)) ∧
    ((on .line lockedOut).asks .line 0x26 (frameFor 0x26 [u8 (binNumber 2)]) ∧ (lockedOut.bin 2).state = .lockout ∧
      (State.reset.bin 2).state ≠ .lockout) ∧
    (∀ n ∈ [(0 : Byte), 4, 5], (on .line lockedOut).asks .line 0x27 (frameFor 0x27 [u8 (binNumber 2), n])) ∧
    (lockedOut.bin 2).stack.length < (5 : Byte).toNat ∧
    ((lockedOut.bin 2).stack = [] ++ (lockedOut.bin 2).stack ∧ (lockedOut.bin 2).stack.length = (4 : Byte).toNat ∧
      (lockedOut.bin 2).stack ≠ []) := by
  refine ⟨fun c hc => asks_on _ _ _ _ (by revert c; decide), ⟨asks_on _ _ _ _ (by decide), by decide +kernel,
    by decide +kernel⟩, fun n _ => asks_on _ _ _ _ (by simp), by decide +kernel, by decide +kernel⟩

theorem witness_LotHoldAndRelease :
    (∀ c ∈ [(0x30 : Byte), 0x31], ∀ s : State,
      (on .line s).asks .line c (frameFor c (be16 (3 : LotNo).toNat)) ∧ (on .line s).asks .line c (frameFor c [3])) ∧
    (let s := State.reset.setBin 0 (bin [sheet 11, { sheet 12 with held := true }])
     ∃ x ∈ (s.bin 0).stack, x.lot = 3 ∧ x.held = true) ∧
    ((3 : LotNo) ∉ State.reset.lotHolds ∧ State.reset.lotHolds.length < 8) ∧
    (3 : LotNo) ∈ ({ State.reset with lotHolds := [3] } : State).lotHolds ∧
    ((3 : LotNo) ∉ ({ State.reset with lotHolds := [11, 12, 13, 14, 15, 16, 17, 18] } : State).lotHolds ∧
      8 ≤ ({ State.reset with lotHolds := [11, 12, 13, 14, 15, 16, 17, 18] } : State).lotHolds.length) := by
  refine ⟨fun c _ s => ⟨asks_on _ _ _ _ (by simp [be16]), asks_on _ _ _ _ (by simp)⟩, by decide +kernel, by decide,
    by decide, by decide⟩

/-- An admitted recipe with an empty queue, one recipe and two; a refused one; and FEEDER SETUP at the ends of its ranges,
with a feeder at rest and one in use. -/
theorem witness_RecipeLoadAndFeederSetup :
    (∀ s : State, (on (.feeder .A) s).asks (.feeder .A) 0x40 (frameFor 0x40 recipe.bytes)) ∧
      recipeOf (frameFor 0x40 recipe.bytes).payload = some recipe ∧ recipeOf (frameFor 0x40 []).payload = none ∧
      (State.reset.feeder .A).recipes = [] ∧
      ((loaded.feeder .A).recipes = [recipe] ∧ (loaded.feeder .A).position = some 1) ∧
      2 ≤ ((State.reset.setFeeder .A { recipes := [recipe, recipe] }).feeder .A).recipes.length ∧
    (∀ (x : Byte) (s : State), (on (.feeder .A) s).asks (.feeder .A) 0x42 (frameFor 0x42 [5, x, 61]) ∧
        (on (.feeder .A) s).asks (.feeder .A) 0x42 (frameFor 0x42 [5, x])) ∧
      (1 < (2 : Byte).toNat ∧ (1 : Byte).toNat ≤ 1) ∧
      ((State.reset.feeder .A).unserved = [] ∧ (State.reset.feeder .A).grants = [] ∧
        (State.reset.feeder .A).patch = .empty) ∧
      ((State.reset.setFeeder .A { unserved := [⟨ply, .call 5 1, false⟩] }).feeder .A).unserved ≠ [] := by
  refine ⟨fun s => asks_on _ _ _ _ (by decide), by decide +kernel, by decide +kernel, rfl, ⟨rfl, rfl⟩, by decide +kernel,
    fun x s => ⟨asks_on _ _ _ _ (by simp), asks_on _ _ _ _ (by simp)⟩, by decide, ⟨rfl, rfl, rfl⟩, by decide +kernel⟩

/-- A feeder with a recipe at its last ply, one in use, and one without a recipe. -/
theorem witness_PlyCall :
    (∀ (l : List Byte) (s : State), l.length ≤ 1 → (on (.feeder .A) s).asks (.feeder .A) 0x43 (frameFor 0x43 l)) ∧
      (let s := State.reset.setFeeder .A { recipes := [recipe], position := some 2 }
       (s.feeder .A).unserved = [] ∧ (s.feeder .A).grants = [] ∧ (s.feeder .A).recipes = recipe :: [] ∧
         (s.feeder .A).position = some 2 ∧ 2 ≤ recipe.plies.length) ∧
      ((State.reset.setFeeder .A { unserved := [⟨ply, .call 5 1, false⟩] }).feeder .A).unserved ≠ [] ∧
      (State.reset.feeder .A).recipes = [] := by
  refine ⟨fun l s h => asks_on _ _ _ _ (by omega), by decide +kernel, by decide +kernel, rfl⟩

/-- A feeder that waits with its patch slot empty, and one whose patch slot is in use. -/
theorem witness_PatchCall :
    (∀ (l : List Byte) (s : State), l.length ≤ 6 → (on (.feeder .A) s).asks (.feeder .A) 0x44 (frameFor 0x44 l)) ∧
      plyBytes.length = 6 ∧ plySpecAt plyBytes 0 = some ply ∧ plySpecAt [6, 0xFF, 0xFF, 3, 0, 1] 0 = none ∧
      (let s := State.reset.setFeeder .A { unserved := [⟨ply, .call 5 1, false⟩], waiting := some ⟨none, 9⟩ }
       (s.feeder .A).patch = .empty ∧ (s.feeder .A).waiting ≠ none) ∧
      ((State.reset.feeder .A).patch = .empty ∧ (State.reset.feeder .A).waiting = none) ∧
      ((State.reset.setFeeder .A { patch := .unserved ⟨ply, .patch, false⟩ }).feeder .A).patch ≠ .empty := by
  refine ⟨fun l s h => asks_on _ _ _ _ (by omega), by decide +kernel, by decide +kernel, by decide +kernel,
    by decide +kernel, ⟨rfl, rfl⟩, by decide +kernel⟩

/-- The top record accepted, the one under it refused ORDER, one of no grant NOT_GRANTED, and a payload of one byte. -/
theorem witness_PicksAcceptedAndRefused :
    (∀ c ∈ [(0x45 : Byte), 0x46], ∀ n ∈ [(12 : StoreNo), 11, 13], ∀ s : State,
      (on (.feeder .A) s).asks (.feeder .A) c (frameFor c (be16 n.toNat)) ∧
        (on (.feeder .A) s).asks (.feeder .A) c (frameFor c [0])) ∧
    (∀ p ∈ [true, false], (picking p).reservedIn .A 12 = some 0 ∧
      ((picking p).bin 0).stack = [{ sheet 11 with reserved := some .A }] ++ [{ sheet 12 with reserved := some .A }] ∧
      (((picking p).feeder .A).grantOf 12).isSome = true ∧
      (((picking p).feeder .A).grantOf 12).any (·.entry.origin.isPatch == p) = true) ∧
    (∀ b, ∀ x ∈ ((picking false).bin b).stack, x.store = 13 → x.reserved ≠ some .A) ∧
    (∃ b, ∃ x ∈ ((picking false).bin b).stack, x.store = 11 ∧ x.reserved = some .A) ∧
    (∀ b, ((picking false).bin b).stack.getLast?.all (fun x => x.store ≠ 11) = true) := by
  refine ⟨fun c _ n _ s => ⟨asks_on _ _ _ _ (by simp [be16]), asks_on _ _ _ _ (by simp)⟩, by decide +kernel,
    by decide +kernel, ⟨0, { sheet 11 with reserved := some .A }, by decide +kernel, rfl, rfl⟩, by decide +kernel⟩

theorem witness_FeederStop :
    (∀ (l : List Byte) (s : State), l.length ≤ 1 → (on (.feeder .A) s).asks (.feeder .A) 0x47 (frameFor 0x47 l)) ∧
      ((picking true).port (.feeder .A)).outcomes.length ≤ 6 ∧ ((picking true).feeder .A).allGrants.length = 2 := by
  refine ⟨fun l s h => asks_on _ _ _ _ (by omega), by decide +kernel, by decide +kernel⟩

/-- A waiting call ply, with a claim and with none, and a waiting patch whose expiry has come. -/
theorem witness_WaitExpiry :
    (let s := ({ State.reset with now := 10000 }.setFeeder .A
       { unserved := [⟨ply, .call 5 1, false⟩], waiting := some ⟨some 3, 10000⟩ }).setBin 3 { bin [] with claim := some .A }
     (s.feeder .A).waiting = some ⟨some 3, 10000⟩ ∧ (s.feeder .A).front = some ⟨ply, .call 5 1, false⟩ ∧
       10000 ≤ s.now ∧ (s.bin 3).claim = some .A) ∧
    (let s := { State.reset with now := 10000 }.setFeeder .A
       { unserved := [⟨ply, .call 5 1, false⟩], waiting := some ⟨none, 10000⟩ }
     (s.feeder .A).waiting = some ⟨none, 10000⟩ ∧ (s.feeder .A).front = some ⟨ply, .call 5 1, false⟩ ∧ 10000 ≤ s.now ∧
       ∀ b, (s.bin b).claim ≠ some .A) ∧
    (let s := { State.reset with now := 10000 }.setFeeder .A
       { patch := .unserved ⟨ply, .patch, false⟩, waiting := some ⟨none, 10000⟩ }
     (s.feeder .A).waiting = some ⟨none, 10000⟩ ∧ (s.feeder .A).front = some ⟨ply, .patch, false⟩ ∧
       Origin.patch.isPatch = true) := by decide +kernel

/-- Bins 1 and 2 both offer a sheet, and bin 2, of the smaller stack, is the better. -/
def offering : State := (loaded.setBin 0 (bin [sheet 11, sheet 12])).setBin 1 (bin [sheet 13])

theorem witness_BestEligibleBin :
    offering.eligible .A ply 0 = some (sheet 12) ∧
      (offering.bestBin ply (offering.eligible .A ply)).map (·.bin) = some 1 ∧
      (State.reset.bestBin ply (State.reset.eligible .A ply)) = none := by decide +kernel

/-- No front ply; a regular ply short of the head's last and the last one, with a second recipe, in REPEAT and in RUN_OUT; a
re-served ply and a patch. Without an eligible bin: a new wait with bin 4 a blocked candidate, since feeder B claims it, and
with none; a target that stays in CHECK, and one that is left. -/
theorem witness_FrontPlyServed :
    (State.reset.feeder .A).front = none ∧
    (∀ r ∈ [({ recipes := [recipe], position := some 1 } : FeederRec),
        { recipes := [recipe, recipe], position := some 2 },
        { recipes := [recipe], position := some 2, mode := .repeating }, { recipes := [recipe], position := some 2 }],
      ∀ e ∈ [(⟨ply, .call 5 1, false⟩ : PlyEntry), ⟨ply, .call 5 1, true⟩],
        let s := offering.setFeeder .A { r with unserved := [e] }
        (s.feeder .A).front = some e ∧ (s.bestBin ply (s.eligible .A ply)).isSome = true ∧
          (s.port (.feeder .A)).outcomes.length ≤ 5 ∧ e.origin.isPatch = false ∧ (s.feeder .A).position.isSome = true) ∧
    (let s := offering.setFeeder .A { patch := .unserved ⟨ply, .patch, false⟩, waiting := some ⟨some 3, 9⟩ }
     (s.feeder .A).front = some ⟨ply, .patch, false⟩ ∧ (s.bestBin ply (s.eligible .A ply)).isSome = true) ∧
    (∀ w ∈ [none, some (⟨some 3, 9⟩ : Wait), some ⟨some 4, 9⟩],
      ∀ r ∈ [({} : BinRec), { bin [sheet 11] with claim := some .B }, { bin [sheet 11] with state := .check }],
        let s := (State.reset.setFeeder .A { unserved := [⟨ply, .call 5 1, false⟩], waiting := w }).setBin 3 r
        (s.feeder .A).front = some ⟨ply, .call 5 1, false⟩ ∧ s.bestBin ply (s.eligible .A ply) = none ∧
          (s.feeder .A).waiting = w) ∧
    (let s := (State.reset.setFeeder .A
       { unserved := [⟨ply, .call 5 1, false⟩], waiting := some ⟨some 3, 9⟩ }).setBin 3 { bin [] with claim := some .A }
     (s.feeder .A).front = some ⟨ply, .call 5 1, false⟩ ∧ s.bestBin ply (s.eligible .A ply) = none ∧
       ∀ b, (s.bin b).claim = some .A → some 3 = some b) ∧
    (let s := State.reset.setBin 3 { bin [sheet 11] with claim := some .B }
     s.BlockedBin .A ply 3 (sheet 11) ∧ s.BestBlocked .A ply (some 3)) := by
  refine ⟨rfl, by decide +kernel, by decide +kernel, by decide +kernel, by decide +kernel, ?_⟩
  have only : ∀ b : BinId, b ≠ 3 → ((State.reset.setBin 3 { bin [sheet 11] with claim := some .B }).bin b).state = .off := by
    decide +kernel
  have best : (State.reset.setBin 3 { bin [sheet 11] with claim := some .B }).BlockedBin .A ply 3 (sheet 11) :=
    ⟨.inl rfl, .inr (.inl rfl), ⟨[], [], rfl, nofun, rfl⟩, by decide +kernel, .inl rfl, by decide +kernel, rfl⟩
  refine ⟨best, nofun, fun b h => ?_⟩
  obtain rfl : (3 : BinId) = b := Option.some.inj h
  refine ⟨_, best, fun b' x' hb' h' => ?_⟩
  rcases h'.1 with h1 | h1 <;> rw [only b' hb'] at h1 <;> cases h1

/-- A line group and a group of bin 16, at the ends of their ranges, in SETUP and in RUN; and payloads of no group. -/
theorem witness_LayoutWrite :
    (∀ l ∈ [([] : List Byte), [17, 0, 0, 0, 0, 0], [0, 8],
        0 :: 8 :: 8 :: (be16 (27000#16).toNat ++ be16 (400#16).toNat ++ be16 (400#16).toNat ++ be16 (29000#16).toNat ++
          [100] ++ be16 (2000#16).toNat ++ [255, 255, 15, 63]),
        u8 (binNumber 15) :: 1 :: (be16 (28000#16).toNat ++ [200, 7]),
        u8 (binNumber 15) :: 1 :: (be16 (28000#16).toNat ++ [200, 0xFF]),
        u8 (binNumber 15) :: 2 :: (be16 (28000#16).toNat ++ [200, 7]),
        u8 (binNumber 15) :: 1 :: (be16 (28000#16).toNat ++ [200, 8])],
      ∀ s : State, (on .line s).asks .line 0x18 (frameFor 0x18 l)) ∧
    State.reset.mode = .setup ∧ (tracking []).mode = .run := by
  refine ⟨fun l hl s => asks_on _ _ _ _ ?_, rfl, rfl⟩
  revert l
  decide +kernel

/-- A state whose pending layout fits bin 1 with this gate distance. -/
def fitting (gate : Nat) (y : Layout) : State :=
  { State.reset with pendingLayout := { y with bins := y.bins.set 0 { fitted := true, gate := gate } } }

/-- Each check of the validation fails once, and the layout that fits bin 1 at 5000 mm passes. -/
theorem witness_LayoutValidation :
    (fitting 5000 { qLow := 90 }).layoutFault = some ⟨1, 0, 9⟩ ∧
      (fitting 5000 { decision := 16000 }).layoutFault = some ⟨2, 0, 5⟩ ∧
      (fitting 3699 {}).layoutFault = some ⟨3, 1, 1⟩ ∧ (fitting 15900 {}).layoutFault = some ⟨4, 1, 1⟩ ∧
      ((fitting 3700 {}).setBin 1 (bin [sheet 5])).layoutFault = some ⟨5, 2, 0⟩ ∧
      (fitting 3700 {}).layoutFault = none := by decide +kernel

theorem witness_EnterRunAndEnterSetup :
    (∀ c ∈ [(0x1A : Byte), 0x1B], ∀ (l : List Byte) (s : State), l.length ≤ 1 →
      (on .line s).asks .line c (frameFor c l)) ∧
    ((fitting 3700 {}).mode = .setup ∧ (fitting 3700 {}).layoutFault = none) ∧
    ((fitting 3699 {}).mode = .setup ∧ (fitting 3699 {}).layoutFault = some ⟨3, 1, 1⟩) ∧
    ((tracking []).mode = .run ∧ (tracking []).tracker.queue = [] ∧ (tracking []).reports = [] ∧
      (tracking []).engine = none) ∧ (tracking [record 1]).tracker.queue ≠ [] ∧
    (State.reset.mode = .setup ∧ State.reset.layoutFault = none) := by
  refine ⟨fun c _ l s h => asks_on _ _ _ _ (by omega), by decide +kernel, by decide +kernel, by decide +kernel,
    by decide +kernel, by decide +kernel⟩

theorem witness_SettingsChangeAtTheirRequestsAlone :
    exec (.encPulse .forward) (backed 0) = .next (backed 0).forwardPulse ∧
      (∀ x, Instr.encPulse .forward ≠ .deviceReset x) ∧ (backed 0).forwardPulse.tracker.pos ≠ (backed 0).tracker.pos :=
  ⟨congrArg (fun t : State => (.next t.forwardPulse : Result)) (State.settlePosition_of_settled (settled_backed 0)),
    nofun, by decide +kernel⟩

theorem counters_reset : State.reset.CountersBounded := by
  intro c
  simp [State.counter, State.reset, Config.counterMax]

theorem witness_CountersOnlyGrow :
    exec .eyeLeadingEdge State.reset = .next State.reset.untrackedEdge ∧
      (∀ x, Instr.eyeLeadingEdge ≠ .deviceReset x) ∧ (∀ p f, Instr.eyeLeadingEdge ≠ .clearCounters p f) ∧
      State.reset.CountersBounded := ⟨rfl, nofun, nofun, counters_reset⟩

/-- The step that the witnesses of the invariants take: an eye edge in RUN, which tracks a sheet. -/
def eyed : State := { tracking [] with pending := [.eyeLeadingEdge] }

theorem step_eyed : step eyed = .next (tracking []).trackedEdge := rfl

theorem layouts_eyed : eyed.LayoutsSound :=
  have h : ({} : Layout).InRange :=
    { laneCount := by decide, divide := by decide, decision := by decide, lead := by decide, tail := by decide
      lineEnd := by decide, tolerance := by decide, window := by decide, quality := by decide, nLost := by decide
      nBack := by decide, gate := by decide +kernel, capacity := by decide +kernel }
  ⟨h, h, fun _ => rfl⟩

theorem bins_eyed : eyed.BinsSound ∧ eyed.BinsBounded := by
  refine ⟨fun b => ?_, fun b => ?_⟩
  · unfold BinRec.Sound
    revert b
    decide +kernel
  · revert b
    decide +kernel

theorem queues_eyed : eyed.QueuesBounded := ⟨by decide, by decide, by decide, List.nodup_nil⟩

/-- The step of an eye edge, and that of a completion with a swap armed. -/
theorem witness_BanksStayValid :
    (eyed.BanksValid ∧ eyed.SwapWaits ∧ step eyed = .next (tracking []).trackedEdge) ∧
      (let s : State := { armed { tracking [] with engine := some grading } with pending := [.gradingCompletion] }
       s.BanksValid ∧ s.SwapWaits ∧ s.rules.armed = true ∧
         step s = .next (armed { tracking [] with engine := some grading }).completionEvent) :=
  ⟨⟨⟨by decide +kernel, nofun⟩, nofun, step_eyed⟩, ⟨by decide +kernel, fun _ => by decide +kernel⟩, fun _ => nofun, rfl,
    rfl⟩

theorem lanes_eyed : eyed.LanesSound := by
  intro i
  unfold LaneRec.Sound
  revert i
  decide +kernel

theorem witness_LayoutLanesAndTravelStaySound :
    eyed.LayoutsSound ∧ eyed.SetupQuiet ∧ eyed.LanesSound ∧ eyed.TravelSound ∧
      step eyed = .next (tracking []).trackedEdge :=
  ⟨layouts_eyed, nofun, lanes_eyed, ⟨by decide, by decide⟩, step_eyed⟩

theorem ports_eyed : eyed.PortsSound := by
  intro p
  rcases p with _ | _ | _ <;> exact ⟨by decide, by decide, by decide, fun _ => by decide⟩

theorem witness_PortsQueuesAndCountersStaySound :
    step eyed = .next (tracking []).trackedEdge ∧ eyed.PortsSound ∧ eyed.QueuesBounded ∧ eyed.CountersBounded :=
  ⟨step_eyed, ports_eyed, queues_eyed, counters_reset⟩

theorem witness_GatesAndBinsStaySound :
    step eyed = .next (tracking []).trackedEdge ∧ eyed.GatesSound ∧ eyed.BinsSound ∧ eyed.FloatsReleased ∧
      eyed.LayoutsSound ∧ eyed.BinsBounded :=
  ⟨step_eyed, fun b => ⟨fun _ => by revert b; decide +kernel, by revert b; decide +kernel, by revert b; decide +kernel⟩,
    bins_eyed.1, fun b _ _ _ _ => by revert b; decide +kernel, layouts_eyed, bins_eyed.2⟩

theorem witness_FeedersAndClaimsStaySound :
    step eyed = .next (tracking []).trackedEdge ∧ eyed.FeedersSound ∧ eyed.ClaimsSound :=
  ⟨step_eyed, fun f => feeders_reset f, fun b f h => by
    have : ∀ b : BinId, (eyed.bin b).claim = none := by decide +kernel
    rw [this b] at h
    cases h⟩

theorem witness_StoreNumbersStayUnique :
    eyed.StoreNumbersUnique ∧ eyed.QueuesBounded ∧ eyed.LayoutsSound ∧ eyed.BinsSound ∧ eyed.BinsBounded ∧
      step eyed = .next (tracking []).trackedEdge :=
  have numbers : eyed.storeNumbers = [] := by decide +kernel
  have carried : eyed.carried = [] := by decide +kernel
  ⟨⟨numbers ▸ List.nodup_nil, fun n h => absurd (carried ▸ h) List.not_mem_nil⟩, queues_eyed, layouts_eyed, bins_eyed.1,
    bins_eyed.2, step_eyed⟩

end Sys2Proof.Tests
end

section
/-! The lane update by the bands of a quality figure (R7, R8), and the compressed error count of READ LANES (R13). -/

namespace Sys2Proof.Machine

open Sys2Proof

/-! ## The compressed error count (R13) -/

/-- The search tries no exponent past its last one. -/
theorem errorExponent_le (c k e : Nat) : errorExponent c k e ≤ e + k := by
  induction k generalizing e with
  | zero => exact Nat.le_refl e
  | succ k ih =>
    have := ih (e + 1)
    unfold errorExponent
    split <;> omega

/-- Every exponent the search passes over leaves a mantissa that does not fit four bits. -/
theorem lt_div_of_lt_errorExponent (c k e j : Nat) (hej : e ≤ j) (hj : j < errorExponent c k e) : 15 < c / 2 ^ j := by
  induction k generalizing e with
  | zero => exact absurd hj (Nat.not_lt.mpr hej)
  | succ k ih =>
    unfold errorExponent at hj
    split at hj
    next => exact absurd hj (Nat.not_lt.mpr hej)
    next hbig =>
      obtain rfl | hlt := Nat.eq_or_lt_of_le hej
      · exact Nat.not_le.mp hbig
      · exact ih (e + 1) hlt hj

/-- Where the last exponent of the search gives a mantissa that fits four bits, the exponent found gives one too. -/
theorem div_errorExponent_le (c k e : Nat) (hlast : c / 2 ^ (e + k) ≤ 15) : c / 2 ^ errorExponent c k e ≤ 15 := by
  induction k generalizing e with
  | zero => exact hlast
  | succ k ih =>
    unfold errorExponent
    split
    next hfits => exact hfits
    next => exact ih (e + 1) (by rwa [Nat.add_right_comm])

theorem errorByte_of_lt {c : Nat} (hc : c < 491520) :
    errorByte c = u8 (errorExponent c 15 0 * 16 + c / 2 ^ errorExponent c 15 0) :=
  if_neg (Nat.not_le.mpr hc)

theorem errorByte_of_le {c : Nat} (hc : 491520 ≤ c) : errorByte c = 0xFF := if_pos hc

/-- A count of 15 or less is given as it is, with exponent 0. -/
theorem errorExponent_of_le {c : Nat} (hc : c ≤ 15) : errorExponent c 15 0 = 0 := by
  by_contra hne
  have : 15 < c / 2 ^ 0 := lt_div_of_lt_errorExponent c 15 0 0 (Nat.le_refl 0) (Nat.pos_of_ne_zero hne)
  rw [pow_zero, Nat.div_one] at this
  omega

/-- Settles O18: the exponent is what the search finds. Below 491,520 the last exponent, 15, already fits, so the search
ends at one that fits, and every smaller one does not. -/
theorem errorCountByte : Obligations.ErrorCountByte := by
  intro c _
  refine ⟨fun hc => ?_, fun hc => ⟨errorByte_of_le hc, rfl⟩⟩
  have hlast : c / 2 ^ (0 + 15) ≤ 15 := by omega
  refine ⟨errorExponent c 15 0, _, errorByte_of_lt hc, ?_, rfl, div_errorExponent_le c 15 0 hlast,
    fun k => lt_div_of_lt_errorExponent c 15 0 k (Nat.zero_le k), Nat.div_mul_le_self c _, fun hsmall => ?_⟩
  · exact errorExponent_le c 15 0
  · rw [errorExponent_of_le hsmall, pow_zero, Nat.div_one]
    exact ⟨rfl, rfl⟩

/-! ## The lane update (R7, R8) -/

section Lane

variable {y : Layout} {r : LaneRec} {q : Nat}

/-- Outside SUSPECT there is no bad run. -/
theorem LaneRec.Sound.badRun_eq_zero (hr : r.Sound y) (hst : r.state ≠ .suspect) : r.badRun = 0 := by
  obtain ⟨⟨hsus, -⟩ | ⟨-, hbad⟩, -⟩ := hr
  · exact absurd hsus hst
  · exact hbad

/-- Outside RECOVERING there is no good run. -/
theorem LaneRec.Sound.goodRun_eq_zero (hr : r.Sound y) (hst : r.state ≠ .recovering) : r.goodRun = 0 := by
  obtain ⟨-, ⟨hrec, -⟩ | ⟨-, hgood⟩, -⟩ := hr
  · exact absurd hrec hst
  · exact hgood

theorem LaneRec.Sound.badRun_lt (hr : r.Sound y) (hst : r.state = .suspect) : r.badRun < y.nLost := by
  obtain ⟨⟨-, -, hlt⟩ | ⟨hne, -⟩, -⟩ := hr
  · exact hlt
  · exact absurd hst hne

theorem LaneRec.Sound.goodRun_lt (hr : r.Sound y) (hst : r.state = .recovering) : r.goodRun < y.nBack := by
  obtain ⟨-, ⟨-, -, hlt⟩ | ⟨hne, -⟩, -⟩ := hr
  · exact hlt
  · exact absurd hst hne

/-- With the thresholds apart a strong reading is never low, so the two bands are read independently of each other. -/
theorem LaneRec.updated_eq (hq : y.qLow < y.qHigh) (r : LaneRec) (q : Nat) :
    r.updated y q = { r.moved y.nLost y.nBack (decide (q < y.qLow)) (decide (y.qHigh ≤ q)) with
      errors := if q < y.qLow then min (r.errors + 1) Config.laneErrorMax else r.errors } := by
  have hstrong : (!decide (q < y.qLow) && decide (y.qHigh ≤ q)) = decide (y.qHigh ≤ q) := by
    by_cases h : y.qHigh ≤ q
    · simp [h, Nat.le_trans (Nat.le_of_lt hq) h]
    · simp [h]
  simp only [LaneRec.updated, hstrong, decide_eq_true_eq]

/-- The row of GOOD in the table of R8. -/
theorem LaneRec.Sound.updated_of_good (hr : r.Sound y) (hLost : 1 ≤ y.nLost) (hq : y.qLow < y.qHigh)
    (hst : r.state = .good) :
    (q < y.qLow → (r.updated y q).state = (if y.nLost = 1 then .lost else .suspect) ∧
      (r.updated y q).badRun = (if y.nLost = 1 then 0 else 1) ∧ (r.updated y q).goodRun = 0) ∧
    (y.qLow ≤ q → (r.updated y q).state = .good ∧ (r.updated y q).badRun = 0 ∧ (r.updated y q).goodRun = 0) := by
  have hbad := hr.badRun_eq_zero (by simp [hst])
  have hgood := hr.goodRun_eq_zero (by simp [hst])
  have hone : y.nLost ≤ 1 ↔ y.nLost = 1 := by omega
  rw [LaneRec.updated_eq hq]
  constructor <;> intro hband
  · by_cases hn : y.nLost = 1 <;> simp [LaneRec.moved, hst, hband, hone, hn]
  · simp [LaneRec.moved, hst, Nat.not_lt.mpr hband, hbad, hgood]

/-- The row of SUSPECT in the table of R8. -/
theorem LaneRec.Sound.updated_of_suspect (hr : r.Sound y) (hq : y.qLow < y.qHigh) (hst : r.state = .suspect) :
    (q < y.qLow → (r.updated y q).state = (if r.badRun + 1 = y.nLost then .lost else .suspect) ∧
      (r.updated y q).badRun = (if r.badRun + 1 = y.nLost then 0 else r.badRun + 1) ∧ (r.updated y q).goodRun = 0) ∧
    (y.qLow ≤ q → (r.updated y q).state = .good ∧ (r.updated y q).badRun = 0 ∧ (r.updated y q).goodRun = 0) := by
  have hgood := hr.goodRun_eq_zero (by simp [hst])
  have hlast : y.nLost ≤ r.badRun + 1 ↔ r.badRun + 1 = y.nLost := by have := hr.badRun_lt hst; omega
  rw [LaneRec.updated_eq hq]
  constructor <;> intro hband
  · by_cases hn : r.badRun + 1 = y.nLost <;> simp [LaneRec.moved, hst, hband, hlast, hn, hgood]
  · simp [LaneRec.moved, hst, Nat.not_lt.mpr hband, hgood]

/-- The row of LOST in the table of R8. -/
theorem LaneRec.Sound.updated_of_lost (hr : r.Sound y) (hBack : 1 ≤ y.nBack) (hq : y.qLow < y.qHigh)
    (hst : r.state = .lost) :
    (q < y.qHigh → (r.updated y q).state = .lost ∧ (r.updated y q).badRun = 0 ∧ (r.updated y q).goodRun = 0) ∧
    (y.qHigh ≤ q → (r.updated y q).state = (if y.nBack = 1 then .good else .recovering) ∧
      (r.updated y q).badRun = 0 ∧ (r.updated y q).goodRun = if y.nBack = 1 then 0 else 1) := by
  have hbad := hr.badRun_eq_zero (by simp [hst])
  have hgood := hr.goodRun_eq_zero (by simp [hst])
  have hone : y.nBack ≤ 1 ↔ y.nBack = 1 := by omega
  rw [LaneRec.updated_eq hq]
  constructor <;> intro hband
  · simp [LaneRec.moved, hst, Nat.not_le.mpr hband, hbad, hgood]
  · by_cases hn : y.nBack = 1 <;> simp [LaneRec.moved, hst, hband, hone, hn]

/-- The row of RECOVERING in the table of R8. -/
theorem LaneRec.Sound.updated_of_recovering (hr : r.Sound y) (hq : y.qLow < y.qHigh) (hst : r.state = .recovering) :
    (q < y.qHigh → (r.updated y q).state = .lost ∧ (r.updated y q).badRun = 0 ∧ (r.updated y q).goodRun = 0) ∧
    (y.qHigh ≤ q → (r.updated y q).state = (if r.goodRun + 1 = y.nBack then .good else .recovering) ∧
      (r.updated y q).badRun = 0 ∧
        (r.updated y q).goodRun = if r.goodRun + 1 = y.nBack then 0 else r.goodRun + 1) := by
  have hbad := hr.badRun_eq_zero (by simp [hst])
  have hlast : y.nBack ≤ r.goodRun + 1 ↔ r.goodRun + 1 = y.nBack := by have := hr.goodRun_lt hst; omega
  rw [LaneRec.updated_eq hq]
  constructor <;> intro hband
  · simp [LaneRec.moved, hst, Nat.not_le.mpr hband, hbad]
  · by_cases hn : r.goodRun + 1 = y.nBack <;> simp [LaneRec.moved, hst, hband, hlast, hn, hbad]

/-- A low reading adds one to the error count of a sound record, which stays at its greatest value once there. -/
theorem LaneRec.Sound.updated_errors_of_low (hr : r.Sound y) (hband : q < y.qLow) :
    (r.updated y q).errors = if r.errors = 16777215 then 16777215 else r.errors + 1 := by
  have hmax : r.errors ≤ 16777215 := by
    obtain ⟨-, -, hmax⟩ := hr
    exact hmax
  simp only [LaneRec.updated, hband, decide_true, if_true, Config.laneErrorMax]
  split <;> omega

/-- A reading that is not low leaves the error count. -/
theorem LaneRec.updated_errors_of_not_low (r : LaneRec) (hband : y.qLow ≤ q) : (r.updated y q).errors = r.errors := by
  simp [LaneRec.updated, Nat.not_lt.mpr hband]

end Lane

/-- The update from a report at one lane: its own reading where the mask names it (R7). -/
theorem State.updateLanes_lanes_getElem (s : State) (r : Report) (i : LaneId) :
    (s.updateLanes r).lanes[i] =
      if r.mask.getLsbD i.val then s.lanes[i].updated s.activeLayout r.quality[i] else s.lanes[i] :=
  tabulateLanes_getElem _ i

/-- Settles O17, a row of the table for each lane state. -/
theorem laneTransitionTable : Obligations.LaneTransitionTable := by
  refine ⟨fun y r q hLost hBack hq hr => ?_, fun s r => ⟨rfl, s.updateLanes_lanes_getElem r⟩⟩
  exact ⟨hr.updated_of_good hLost hq, hr.updated_of_suspect hq, hr.updated_of_lost hBack hq, hr.updated_of_recovering hq,
    hr.updated_errors_of_low, r.updated_errors_of_not_low⟩

end Sys2Proof.Machine
end

section
/-! The Router's candidates and its choice (R74, R77, R78). The tie-break by bin number is where the pick stands in its
list: the candidates come in the order of the bins, and `pickBest` takes the earliest of those that tie. -/

namespace Sys2Proof.Machine

open Sys2Proof

/-! ## The place of what is picked -/

/-- For a strict preference, the pick beats everything before it in the list, and nothing after it beats the pick. -/
theorem pickBest_split {α : Type} {better : α → α → Bool} (irrefl : ∀ a, better a a = false)
    (asymm : ∀ a b, better a b = true → better b a = false)
    (trans : ∀ a b c, better a b = false → better b c = false → better a c = false) {l : List α} {x : α}
    (h : pickBest better l = some x) :
    ∃ front back, l = front ++ x :: back ∧ (∀ y ∈ front, better x y = true) ∧ ∀ y ∈ back, better y x = false := by
  induction l generalizing x with
  | nil => simp [pickBest] at h
  | cons z zs ih =>
    have hbest := pickBest_best irrefl asymm trans h
    simp only [pickBest] at h
    split at h
    next =>
      cases h
      exact ⟨[], zs, rfl, nofun, fun y hy => hbest y (List.mem_cons_of_mem _ hy)⟩
    next w hw =>
      split at h
      next hb =>
        cases h
        obtain ⟨front, back, rfl, hfront, hback⟩ := ih hw
        exact ⟨z :: front, back, rfl, List.forall_mem_cons.mpr ⟨hb, hfront⟩, hback⟩
      next =>
        cases h
        exact ⟨[], zs, rfl, nofun, fun y hy => hbest y (List.mem_cons_of_mem _ hy)⟩

theorem mem_binsInOrder (b : BinId) : b ∈ binsInOrder := by
  revert b
  decide

theorem binsInOrder_pairwise_lt : binsInOrder.Pairwise (· < ·) := by decide

/-- The best of what the bins offer, ranked in their order: every other offer is beaten, or it is no better and comes from
a higher bin. -/
theorem pickBest_binsInOrder {α : Type} {better : α → α → Bool} (irrefl : ∀ a, better a a = false)
    (asymm : ∀ a b, better a b = true → better b a = false)
    (trans : ∀ a b c, better a b = false → better b c = false → better a c = false) {offer : BinId → Option α}
    {bin : α → BinId} (hbin : ∀ {b x}, offer b = some x → bin x = b) {x : α}
    (h : pickBest better (binsInOrder.filterMap offer) = some x) :
    offer (bin x) = some x ∧
      ∀ b y, b ≠ bin x → offer b = some y → better x y = true ∨ better y x = false ∧ bin x < b := by
  have hoffer : offer (bin x) = some x := by
    obtain ⟨b, -, hb⟩ := List.mem_filterMap.mp (pickBest_mem h)
    rwa [hbin hb]
  refine ⟨hoffer, fun b y hne hy => ?_⟩
  obtain ⟨front, back, hl, hfront, hback⟩ := pickBest_split irrefl asymm trans h
  have hsorted : (binsInOrder.filterMap offer).Pairwise fun a b => bin a < bin b :=
    binsInOrder_pairwise_lt.filterMap offer fun a a' haa' u hu v hv => by rwa [hbin hu, hbin hv]
  have hmem : y ∈ front ++ x :: back := hl ▸ List.mem_filterMap.mpr ⟨b, mem_binsInOrder b, hy⟩
  rw [hl] at hsorted
  rcases List.mem_append.mp hmem with hy' | hy'
  · exact .inl (hfront y hy')
  · rcases List.mem_cons.mp hy' with rfl | hy'
    · exact absurd (hbin hy).symm hne
    · exact .inr ⟨hback y hy', hbin hy ▸ List.rel_of_pairwise_cons (List.pairwise_append.mp hsorted).2.1 hy'⟩

/-! ## The conditions of a candidate (R74, R77) -/

theorem Gate.takes_iff (g : Gate) (p o : Pos) :
    g.takes p o = true ↔
      g.lead = none ∨ ∃ e, g.lead = some e ∧ g.follow = none ∧ forwardDistance p e.closePos < forwardDistance p o := by
  unfold Gate.takes
  cases g.lead <;> simp

theorem BinRec.reservedCount_eq_zero_iff (r : BinRec) : r.reservedCount = 0 ↔ ∀ x ∈ r.stack, x.reserved = none := by
  simp [BinRec.reservedCount, List.countP_eq_zero]

/-- The kind, when the bin takes the class, is the first key of R78. -/
theorem BinRec.kindFor_eq_some {r : BinRec} {c : GradeClass} {k : Nat} (h : r.kindFor c = some k) :
    k = if r.mode = .fixed then 0 else if r.current = some c then 1 else 2 := by
  unfold BinRec.kindFor at h
  split at h <;> simp_all

theorem BinRec.kindFor_isSome (r : BinRec) (c : GradeClass) :
    (r.kindFor c).isSome = true ↔
      r.mode = .fixed ∧ r.current = some c ∨ r.mode = .float ∧ (r.current = some c ∨ r.current = none) := by
  unfold BinRec.kindFor
  split <;> simp_all

theorem State.binOpenTo_iff (s : State) (b : BinId) (lead : Pos) :
    s.binOpenTo b lead = true ↔
      (s.bin b).state = .service ∧ (s.bin b).claim = none ∧ (∀ x ∈ (s.bin b).stack, x.reserved = none) ∧
        s.inbound b ≤ 2 ∧ (s.bin b).stack.length + s.inbound b < (s.bin b).capacity ∧
        (s.gate b).takes s.tracker.pos (openPosition lead (s.bin b).gate s.activeLayout.lead) = true := by
  simp only [State.binOpenTo, Bool.and_eq_true, beq_iff_eq, decide_eq_true_eq, BinRec.reservedCount_eq_zero_iff,
    and_assoc]
  rfl

theorem State.routeCandidate_eq_some {s : State} {c : GradeClass} {lead : Pos} {b : BinId} {x : RouteChoice} :
    s.routeCandidate c lead b = some x ↔
      s.binOpenTo b lead = true ∧ ∃ k, (s.bin b).kindFor c = some k ∧
        ⟨b, k, (s.bin b).stack.length + s.inbound b⟩ = x := by
  simp [State.routeCandidate]

theorem State.routeCandidate_isSome (s : State) (c : GradeClass) (lead : Pos) (b : BinId) :
    (s.routeCandidate c lead b).isSome = true ↔ s.binOpenTo b lead = true ∧ ((s.bin b).kindFor c).isSome = true := by
  unfold State.routeCandidate
  split <;> simp_all

/-- A candidate carries its bin's number, its kind as the first key of R78 gives it, and the sum of the second key. -/
theorem State.routeCandidate_fields {s : State} {c : GradeClass} {lead : Pos} {b : BinId} {x : RouteChoice}
    (h : s.routeCandidate c lead b = some x) :
    x.bin = b ∧ x.kind = (if (s.bin b).mode = .fixed then 0 else if (s.bin b).current = some c then 1 else 2) ∧
      x.sum = (s.bin b).stack.length + s.inbound b := by
  obtain ⟨-, k, hk, rfl⟩ := State.routeCandidate_eq_some.mp h
  exact ⟨rfl, BinRec.kindFor_eq_some hk, rfl⟩

/-- Settles O32: a bin is a candidate when it is open to the sheet and takes its class, each by its own conditions. -/
theorem routerCandidates : Obligations.RouterCandidates := by
  intro s c lead b
  rw [s.routeCandidate_isSome, s.binOpenTo_iff, BinRec.kindFor_isSome, Gate.takes_iff]
  unfold openPosition
  tauto

/-! ## The preference of the Router (R78) -/

theorem RouteChoice.before_iff (x y : RouteChoice) :
    x.before y = true ↔ x.kind < y.kind ∨ x.kind = y.kind ∧ y.sum < x.sum := by
  simp [RouteChoice.before]

theorem RouteChoice.before_eq_false_iff (x y : RouteChoice) :
    x.before y = false ↔ y.kind < x.kind ∨ x.kind = y.kind ∧ x.sum ≤ y.sum := by
  rw [← Bool.not_eq_true, RouteChoice.before_iff]
  omega

theorem RouteChoice.before_irrefl (x : RouteChoice) : x.before x = false :=
  (x.before_eq_false_iff x).mpr (.inr ⟨rfl, Nat.le_refl _⟩)

theorem RouteChoice.before_asymm (x y : RouteChoice) (h : x.before y = true) : y.before x = false := by
  rw [RouteChoice.before_iff] at h
  rw [RouteChoice.before_eq_false_iff]
  omega

theorem RouteChoice.before_negTrans (x y z : RouteChoice) (hxy : x.before y = false) (hyz : y.before z = false) :
    x.before z = false := by
  rw [RouteChoice.before_eq_false_iff] at *
  omega

/-! ## The choice (R78) -/

theorem State.chooseBin_eq_none_iff (s : State) (c : GradeClass) (lead : Pos) :
    s.chooseBin c lead = none ↔ ∀ b, s.routeCandidate c lead b = none := by
  rw [State.chooseBin, Option.map_eq_none_iff, pickBest_eq_none, List.filterMap_eq_nil_iff]
  exact ⟨fun h b => h b (mem_binsInOrder b), fun h b _ => h b⟩

/-- The bin chosen is a candidate, and every other candidate is beaten, or it is no better and has the higher number. -/
theorem State.chooseBin_eq_some {s : State} {c : GradeClass} {lead : Pos} {b : BinId}
    (h : s.chooseBin c lead = some b) :
    ∃ x, s.routeCandidate c lead b = some x ∧
      ∀ b' x', b' ≠ b → s.routeCandidate c lead b' = some x' →
        x.before x' = true ∨ x'.before x = false ∧ b < b' := by
  obtain ⟨x, hpick, rfl⟩ := Option.map_eq_some_iff.mp h
  exact ⟨x, pickBest_binsInOrder RouteChoice.before_irrefl RouteChoice.before_asymm RouteChoice.before_negTrans
    (fun hx => (State.routeCandidate_fields hx).1) hpick⟩

/-- Settles O33: the first two keys are the Router's preference, and the third is the order of the bins. -/
theorem routerChoice : Obligations.RouterChoice := by
  intro s c lead
  refine ⟨s.chooseBin_eq_none_iff c lead, fun b hb => ?_⟩
  obtain ⟨x, hx, hothers⟩ := State.chooseBin_eq_some hb
  obtain ⟨-, hkind, hsum⟩ := State.routeCandidate_fields hx
  refine ⟨x, hx, hkind, hsum, fun b' x' hne hx' => ?_⟩
  have hkeys := hothers b' x' hne hx'
  rw [RouteChoice.before_iff, RouteChoice.before_eq_false_iff] at hkeys
  rcases hkeys with hbeaten | ⟨hless | ⟨hsame, hle⟩, hlower⟩
  · exact hbeaten.imp_right fun ⟨hsame, hmore⟩ => ⟨hsame, .inl hmore⟩
  · exact .inl hless
  · exact .inr ⟨hsame.symm, (Nat.lt_or_eq_of_le hle).imp_right fun heq => ⟨heq.symm, hlower⟩⟩

end Sys2Proof.Machine
end

section
/-! A selection that ends before its frame does (R187): what a release of SEL does in REQUEST and in DISCARDING, and what a
device reset leaves at each port. -/

namespace Sys2Proof.Machine

open Sys2Proof

/-! ## SEL rises (R187) -/

section Release

variable {p : Port} {s : State}

theorem exec_emptySelection_of_request (h : (s.port p).parser = .request) :
    exec (.emptySelection p) s = .next (s.setParser p .deselected) := by
  change execEmptySelection p s = _
  rw [execEmptySelection, h]

/-- Whether a byte was taken decides between an empty selection and a frame given up. -/
theorem exec_frameGivenUp_of_request (h : (s.port p).parser = .request) (taken : List Byte) :
    exec (.frameGivenUp p taken) s =
      .next (if taken.isEmpty then s.setParser p .deselected
        else (s.setParser p .deselected).raise p .frameError) := by
  change execFrameGivenUp p taken s = _
  rw [execFrameGivenUp, h]

theorem exec_discardingRelease_of_discarding (h : (s.port p).parser = .discarding) :
    exec (.discardingRelease p) s = .next (s.setParser p .deselected) := by
  change execDiscardingRelease p s = _
  rw [execDiscardingRelease, h]

end Release

/-! ## Device reset (R181) -/

/-- The level of a port's select as RESET rises. -/
def resetSelLow (x : ResetLevels) : Port → Bool
  | .line => x.lineSelLow
  | .feeder .A => x.feederASelLow
  | .feeder .B => x.feederBSelLow

theorem exec_deviceReset (x : ResetLevels) (s : State) : exec (.deviceReset x) s = .next (s.afterReset x) := rfl

/-- A device reset leaves every port its reset values, but for the parser, which follows the port's own select. -/
theorem State.port_afterReset (s : State) (x : ResetLevels) (p : Port) :
    (s.afterReset x).port p = { parser := parserAfterReset (resetSelLow x p) } := by
  cases p with
  | line => rfl
  | feeder g => cases g <;> rfl

/-- Settles O4: each release by the parser's state, and the reset by what it leaves at a port. -/
theorem selectReleasedEarly : Obligations.SelectReleasedEarly := by
  intro p s
  refine ⟨fun hreq => ⟨fun taken htaken => ?_, exec_emptySelection_of_request hreq⟩,
    exec_discardingRelease_of_discarding, fun x => ⟨s.afterReset x, exec_deviceReset x s, ?_, ?_⟩⟩
  · have hbegun : ¬ taken.isEmpty := by rwa [List.isEmpty_iff]
    rw [exec_frameGivenUp_of_request hreq, if_neg hbegun]
  · rw [State.port_afterReset]
  · rw [State.port_afterReset]
    rfl

end Sys2Proof.Machine
end

section
/-! What a request command answers once its frame has passed the frame check, as one function of the command; and from it
the statements about frames that are ignored, refused or answered with no effect (R183 to R190). -/

namespace Sys2Proof.Machine

set_option Elab.async false

open Sys2Proof

/-! ## The meaning of a request command after the frame check -/

/-- What a request of the feeder ports answers: WRONG_PORT on the Line Port (R189, R191). -/
def feederBody (body : Feeder → List Byte → State → Reply × State) : Port → List Byte → State → Reply × State
  | .line, _ => fun s => (Reply.bare .wrongPort, s)
  | .feeder g, l => body g l

/-- What a request command answers, and the state it leaves, once its frame has passed the frame check. An event has no
frame; `exec_request` ties this function to `exec` for every request. -/
def requestBody : Instr → State → Reply × State
  | .sheetReport p f => takeReport p f.payload
  | .lineRestart p f => lineRestartBody p f.payload
  | .readTracking p f => readTrackingBody p f.payload
  | .ruleWrite p f => ruleWriteBody p f.payload
  | .ruleRead p f => ruleReadBody p f.payload
  | .ruleSwap p f => ruleSwapBody p f.payload
  | .layoutWrite p f => layoutWriteBody p f.payload
  | .layoutRead p f => layoutReadBody p f.payload
  | .enterRun p f => enterRunBody p f.payload
  | .enterSetup p f => enterSetupBody p f.payload
  | .binRead p f => binReadBody p f.payload
  | .stackRead p f => stackReadBody p f.payload
  | .binDrain _ f => binRequest 1 drainBin f.payload
  | .binService _ f => binRequest 1 serviceBin f.payload
  | .binLock _ f => binRequest 1 lockBinBody f.payload
  | .binUnload _ f => binRequest 1 unloadBin f.payload
  | .binRemoveTop _ f => binRequest 2 (removeTop (byteAt f.payload 1)) f.payload
  | .resolveLanded p f => binResolveBody p f.payload
  | .resolveLost p f => binResolveBody p f.payload
  | .resolveClear p f => binResolveBody p f.payload
  | .lotHold p f => lotHoldBody p f.payload
  | .lotRelease p f => lotReleaseBody p f.payload
  | .lotList p f => lotListBody p f.payload
  | .recipeLoad p f => feederBody recipeLoadBody p f.payload
  | .recipeRead p f => feederBody recipeReadBody p f.payload
  | .feederSetup p f => feederBody feederSetupBody p f.payload
  | .plyCall p f => feederBody plyCallBody p f.payload
  | .patchCall p f => feederBody patchCallBody p f.payload
  | .pickDone p f => feederBody pickDoneBody p f.payload
  | .pickFailed p f => feederBody pickFailedBody p f.payload
  | .feederStop p f => feederBody feederStopBody p f.payload
  | .callStatus p f => feederBody callStatusBody p f.payload
  | .fetchOutcome p f => fetchOutcomeBody p f.payload
  | .readFlags p f => readFlagsBody p f.payload
  | .clearFlags p f => clearFlagsBody p f.payload
  | .setMask p f => setMaskBody p f.payload
  | .readCounters p f => readCountersBody p f.payload
  | .clearCounters p f => clearCountersBody p f.payload
  | .readLanes p f => readLanesBody p f.payload
  | _ => refuse .badRequest

theorem takeFeeder_eq (code : Byte) (body : Feeder → List Byte → State → Reply × State) (p : Port) (f : Frame)
    (s : State) : takeFeeder code body p f s = takeFrame code (feederBody body p f.payload) p f s := by
  cases p <;> rfl

theorem exec_request {c : Instr} {p : Port} {code : Byte} {f : Frame} (hc : c.request? = some (p, code, f))
    (s : State) : exec c s = .next (takeFrame code (requestBody c) p f s) := by
  cases c
  case recipeLoad | recipeRead | feederSetup | plyCall | patchCall | pickDone | pickFailed | feederStop | callStatus =>
    cases hc
    exact congrArg _ (takeFeeder_eq _ _ _ _ _)
  all_goals cases hc <;> rfl

/-! ## A request that is asked -/

section Asked

variable {c : Instr} {p : Port} {code : Byte} {f : Frame} {s t : State} {r : Reply}

theorem State.asks.frameGood (h : s.asks p code f) : Machine.frameGood code f = true := by
  obtain ⟨-, hlen, hcheck⟩ := h
  simp [Machine.frameGood, requestCheck, Config.payloadMax, hlen, hcheck]

theorem takeFrame_of_asks (h : s.asks p code f) (body : State → Reply × State) :
    takeFrame code body p f s = (body s).2.answer p (body s).1 := takeFrame_good h.1 h.frameGood

theorem exec_of_asks (hc : c.request? = some (p, code, f)) (h : s.asks p code f) :
    exec c s = .next ((requestBody c s).2.answer p (requestBody c s).1) := by
  rw [exec_request hc, takeFrame_of_asks h]

/-- A request that is asked is answered as its body says. -/
theorem exec_answer (hc : c.request? = some (p, code, f)) (h : s.asks p code f) (hb : requestBody c s = (r, t)) :
    exec c s = .next (t.answer p r) := by
  rw [exec_of_asks hc h, hb]

end Asked

/-! ## Frames ignored and refused (R183, R189) -/

/-- Settles O5. -/
theorem frameCheckComesFirst : Obligations.FrameCheckComesFirst := by
  intro c p code f s hc
  refine ⟨fun hp => ?_, fun hp hbad => ?_⟩
  · rw [exec_request hc, takeFrame_ignored hp]
  · have hgood : frameGood code f = false := by
      rw [frameGood, requestCheck, Config.payloadMax]
      rcases hbad with hlen | hcheck
      · simp [Nat.not_le.2 hlen]
      · simp [hcheck]
    have hbytes : (Reply.bare .badFrame).bytes = [0x5A, 0x05, 0x00, 0x41] := by decide +kernel
    rw [exec_request hc, takeFrame_bad hp hgood, hbytes]

/-- A command with a code byte of spec/10's feeder group, 0x40 to 0x48, is a request of the feeder ports. -/
theorem requestBody_line_of_feederCode {c : Instr} {code : Byte} {f : Frame} (hwf : c.wf = true)
    (hc : c.request? = some (.line, code, f)) (hlo : 0x40 ≤ code.toNat) (hhi : code.toNat ≤ 0x48) (s : State) :
    requestBody c s = (Reply.bare .wrongPort, s) := by
  cases c
  case badRequest p code' f' =>
    cases hc
    have hlisted : isRequestCode code = true := by
      have : code = 0x40 ∨ code = 0x41 ∨ code = 0x42 ∨ code = 0x43 ∨ code = 0x44 ∨ code = 0x45 ∨ code = 0x46 ∨
          code = 0x47 ∨ code = 0x48 := by bv_omega
      rcases this with rfl | rfl | rfl | rfl | rfl | rfl | rfl | rfl | rfl <;> rfl
    simp [Instr.wf, hlisted] at hwf
  all_goals cases hc <;> first | rfl | exact absurd hlo (by decide) | exact absurd hhi (by decide)

/-- Settles O6. -/
theorem unacceptedRequests : Obligations.UnacceptedRequests := by
  intro p code f s h
  have hreq : (Reply.bare .badRequest).bytes = [0x5A, 0x06, 0x00, 0x7E] := by decide +kernel
  have hport : (Reply.bare .wrongPort).bytes = [0x5A, 0x04, 0x00, 0x54] := by decide +kernel
  refine ⟨?_, fun c hwf hc hp hlo hhi => ?_, fun g hp hcode => ?_⟩
  · rw [exec_answer rfl h rfl, State.answer]
    exact congrArg (fun l => Host.Outcome.next (s.setParser p (.preparing l))) hreq
  · subst hp
    rw [exec_answer hc h (requestBody_line_of_feederCode hwf hc hlo hhi s), State.answer, hport]
  · subst hp hcode
    have hbody : requestBody (.sheetReport (.feeder g) f) s = (Reply.bare .wrongPort, s.bump .reportsRefused) := by
      simp [requestBody, takeReport, refuseReport]
    rw [exec_answer rfl h hbody, State.answer, hport]

end Sys2Proof.Machine
end

section
/-! What each command can change, part by part of the state. A part is kept when it is equal, or, for the parts that any
command may grow, when it stays sound: the ports within their bounds, the counters without falling, the tracking queue
without a record joining. `changes_exec` gives for every command the parts it may change. -/

namespace Sys2Proof.Machine

set_option Elab.async false

open Sys2Proof

/-! ## Flag bits (R201, R202) -/

theorem Flag.getLsbD_word (g : Flag) (i : Nat) : g.word.getLsbD i = (i == g.index) := by
  have hlt : g.index < 16 := by cases g <;> decide
  rw [Flag.word, BitVec.getLsbD_shiftLeft, BitVec.getLsbD_one]
  by_cases h : i = g.index
  · simp [h, hlt]
  · have : ¬ (i < 16 ∧ g.index ≤ i ∧ i - g.index = 0) := by omega
    simp only [beq_eq_false_iff_ne.2 h]
    simpa using fun a b => by omega

theorem PortRec.getLsbD_raise_flags (r : PortRec) (g : Flag) (i : Nat) :
    (r.raise g).flags.getLsbD i = (i == g.index || r.flags.getLsbD i) := by
  rw [PortRec.raise_flags, BitVec.getLsbD_or, Flag.getLsbD_word, Bool.or_comm]

theorem PortRec.getLsbD_raise_seen (r : PortRec) (g : Flag) (i : Nat) :
    (r.raise g).seen.getLsbD i = (i != g.index && r.seen.getLsbD i) := by
  rw [PortRec.raise_seen, BitVec.getLsbD_and, BitVec.getLsbD_not, Flag.getLsbD_word]
  by_cases h : i < 16
  · simp [h, bne, Bool.and_comm]
  · simp [BitVec.getLsbD_of_ge _ _ (Nat.not_lt.1 h)]

/-! ## Sound ports (R199, R201) -/

/-- The flags that the Line Port has: all but those of bits 2 to 4. -/
def Flag.onLine : Flag → Bool
  | .recipeOverflow | .shortage | .revoked => false
  | _ => true

/-- Seen marks stand on set flags, bit by bit. -/
theorem seen_and_not_flags_eq_zero {w : Nat} (seen flags : BitVec w) :
    seen &&& ~~~flags = 0 ↔ ∀ i, seen.getLsbD i = true → flags.getLsbD i = true := by
  constructor
  · intro h i hi
    have hlt : i < w := BitVec.lt_of_getLsbD hi
    simpa [hi, hlt] using congrArg (BitVec.getLsbD · i) h
  · intro h
    refine BitVec.eq_of_getLsbD_eq fun i hlt => ?_
    have := h i
    cases hs : seen.getLsbD i <;> simp_all

theorem PortRec.Sound.raise {p : Port} {r : PortRec} {g : Flag} (h : r.Sound p) (hg : p = .line → g.onLine = true) :
    (r.raise g).Sound p := by
  obtain ⟨hout, hseen, h15, hline⟩ := h
  rw [seen_and_not_flags_eq_zero] at hseen
  refine ⟨hout, ?_, ?_, fun hp => ?_⟩
  · rw [seen_and_not_flags_eq_zero]
    intro i
    rw [PortRec.getLsbD_raise_seen, PortRec.getLsbD_raise_flags]
    have := hseen i
    simp_all
  · rw [PortRec.getLsbD_raise_flags, h15]
    cases g <;> rfl
  · obtain ⟨h2, h3, h4⟩ := hline hp
    have := hg hp
    simp only [PortRec.getLsbD_raise_flags, h2, h3, h4]
    cases g <;> simp_all [Flag.onLine, Flag.index]

theorem PortRec.Sound.joined {p : Port} {r : PortRec} (h : r.Sound p) (hroom : r.outcomes.length < Config.outcomeQueueDepth)
    (o : OutcomeRec) : ({ r with outcomes := r.outcomes ++ [o] } : PortRec).Sound p := by
  obtain ⟨-, hrest⟩ := h
  exact ⟨by simpa using hroom, hrest⟩

/-! ## The parts of the state -/

/-- The parts of the state that `Instr.touched` speaks of. -/
inductive Part where
  | mode | pendingLayout | activeLayout | pos | travel | tracked | reports | lanes | engine | banks | swap | gates | bins
  | lotHolds | feeders | ports | counters | pending
  | settings (p : Port)
  | masks (p : Port)
  deriving DecidableEq

/-- A part is kept from `s` to `t`. Of the tracking queue it is kept that no record joins; of the ports, that they stay
sound; of the counters, that none falls or passes its saturation value. -/
def State.Same (s t : State) : Part → Prop
  | .mode => t.mode = s.mode
  | .pendingLayout => t.pendingLayout = s.pendingLayout
  | .activeLayout => t.activeLayout = s.activeLayout
  | .pos => t.tracker.pos = s.tracker.pos
  | .travel => t.tracker.residue = s.tracker.residue ∧ t.tracker.backlash = s.tracker.backlash
  | .tracked => t.tracked.Sublist s.tracked
  | .reports => t.reports = s.reports
  | .lanes => t.lanes = s.lanes
  | .engine => t.engine = s.engine
  | .banks => t.rules.bank0 = s.rules.bank0 ∧ t.rules.bank1 = s.rules.bank1
  | .swap => t.rules.active = s.rules.active ∧ t.rules.armed = s.rules.armed
  | .gates => t.gates = s.gates
  | .bins => t.bins = s.bins
  | .lotHolds => t.lotHolds = s.lotHolds
  | .feeders => t.feeders = s.feeders
  | .settings p => ∀ f, p = .feeder f → (s.feeder f).RoundFrame (t.feeder f)
  | .masks p => (t.port p).mask = (s.port p).mask
  | .ports => ∀ p, (s.port p).Sound p → (t.port p).Sound p
  | .counters => ∀ k, s.counter k ≤ Config.counterMax → s.counter k ≤ t.counter k ∧ t.counter k ≤ Config.counterMax
  | .pending => t.pending = s.pending

/-- From `s` to `t` no part outside `l` changes. -/
def Changes (l : List Part) (s t : State) : Prop := ∀ x, x ∉ l → s.Same t x

theorem State.Same.refl (s : State) (x : Part) : s.Same s x := by
  cases x
  case travel | banks | swap => exact ⟨rfl, rfl⟩
  case tracked => exact List.Sublist.refl _
  case settings => exact fun _ _ => .refl _
  case ports => exact fun _ h => h
  case counters => exact fun _ h => ⟨le_refl _, h⟩
  all_goals rfl

theorem State.Same.trans {s t u : State} {x : Part} (h : s.Same t x) (h' : t.Same u x) : s.Same u x := by
  cases x
  case travel | banks | swap => exact ⟨h'.1.trans h.1, h'.2.trans h.2⟩
  case tracked => exact List.Sublist.trans h' h
  case settings => exact fun f hf => (h f hf).trans (h' f hf)
  case ports => exact fun p hp => h' p (h p hp)
  case counters =>
    intro k hk
    obtain ⟨hle, hmax⟩ := h k hk
    obtain ⟨hle', hmax'⟩ := h' k hmax
    exact ⟨hle.trans hle', hmax'⟩
  all_goals exact Eq.trans h' h

section Chains

variable {l : List Part} {s t u : State}

@[refl] theorem Changes.refl (l : List Part) (s : State) : Changes l s s := fun x _ => .refl s x

theorem Changes.trans (h : Changes l s t) (h' : Changes l t u) : Changes l s u := fun x hx => (h x hx).trans (h' x hx)

theorem Changes.ite {c : Prop} [Decidable c] (h : Changes l s t) (h' : Changes l s u) :
    Changes l s (if c then t else u) := by
  split
  · exact h
  · exact h'

theorem Changes.foldl {α : Type} {f : State → α → State} (hf : ∀ s a, Changes l s (f s a)) (as : List α) (s : State) :
    Changes l s (as.foldl f s) := by
  induction as generalizing s with
  | nil => exact .refl l s
  | cons a as ih => exact (hf s a).trans (ih _)

end Chains

/-! ## The basic updates -/

section Updates

variable {l : List Part} (s : State)

/-- A new record of a port that keeps the mask and stays sound. -/
theorem changes_setPort (p : Port) (r : PortRec) (hmask : r.mask = (s.port p).mask)
    (hsound : (s.port p).Sound p → r.Sound p) : Changes l s (s.setPort p r) := by
  intro x _
  have hrefl := State.Same.refl s x
  cases x
  case masks q _ =>
    change ((s.setPort p r).port q).mask = (s.port q).mask
    rw [State.port_setPort]
    split
    · rename_i h; rw [h, hmask]
    · rfl
  case ports =>
    intro q
    rw [State.port_setPort]
    split
    · rename_i h; rw [h]; exact hsound
    · exact id
  all_goals exact hrefl

theorem changes_setParser (p : Port) (x : Parser) : Changes l s (s.setParser p x) :=
  changes_setPort s p _ rfl id

theorem changes_raise (p : Port) (g : Flag) (hg : p = .line → g.onLine = true) : Changes l s (s.raise p g) :=
  changes_setPort s p _ rfl fun h => h.raise hg

theorem changes_raiseAll (g : Flag) (hg : g.onLine = true) : Changes l s (s.raiseAll g) := by
  intro x _
  have hrefl := State.Same.refl s x
  cases x
  case masks q _ =>
    change ((s.raiseAll g).port q).mask = (s.port q).mask
    rw [State.port_raiseAll]
    rfl
  case ports => intro q h; rw [State.port_raiseAll]; exact h.raise fun _ => hg
  all_goals exact hrefl

theorem changes_send (p : Port) (o : OutcomeRec) : Changes l s (s.send p o) := by
  unfold State.send
  split
  · rename_i hroom
    exact changes_setPort s p _ rfl fun h => h.joined hroom o
  · exact changes_raise s p _ fun _ => rfl

theorem changes_raiseRisen (g : Flag) (hg : g.onLine = true) (b a : Bool) : Changes l s (s.raiseRisen g b a) :=
  .ite (changes_raiseAll s g hg) (.refl l s)

theorem changes_takeConditions (before : State) : Changes l s (s.takeConditions before) :=
  ((changes_raiseRisen s _ rfl _ _).trans (changes_raiseRisen _ _ rfl _ _)).trans (changes_raiseRisen _ _ rfl _ _)

theorem changes_bumpBy (c : Counter) (n : Nat) : Changes l s (s.bumpBy c n) := by
  intro x _
  have hrefl := State.Same.refl s x
  cases x
  case counters =>
    intro k hk
    by_cases h : k = c
    · subst h
      rw [State.counter_bumpBy_self]
      omega
    · rw [State.counter_bumpBy_ne s h]
      exact ⟨le_refl _, hk⟩
  all_goals exact hrefl

theorem changes_bump (c : Counter) : Changes l s (s.bump c) := changes_bumpBy s c 1

theorem changes_setBin (hl : .bins ∈ l) (b : BinId) (r : BinRec) : Changes l s (s.setBin b r) := by
  intro x hx
  have hrefl := State.Same.refl s x
  cases x
  case bins => exact absurd hl hx
  all_goals exact hrefl

theorem changes_mapBins (hl : .bins ∈ l) (f : BinRec → BinRec) : Changes l s (s.mapBins f) := by
  intro x hx
  have hrefl := State.Same.refl s x
  cases x
  case bins => exact absurd hl hx
  all_goals exact hrefl

theorem changes_floatRelease (hl : .bins ∈ l) (b : BinId) : Changes l s (s.floatRelease b) := changes_setBin s hl b _

theorem changes_clearClaim (hl : .bins ∈ l) (f : Feeder) : Changes l s (s.clearClaim f) := changes_mapBins s hl _

theorem changes_setGate (hl : .gates ∈ l) (b : BinId) (g : Gate) : Changes l s (s.setGate b g) := by
  intro x hx
  have hrefl := State.Same.refl s x
  cases x
  case gates => exact absurd hl hx
  all_goals exact hrefl

/-- A feeder's record that keeps its mode, group size and timeout. -/
theorem changes_setFeeder (hl : .feeders ∈ l) (f : Feeder) (r : FeederRec) (h : (s.feeder f).RoundFrame r) :
    Changes l s (s.setFeeder f r) := by
  intro x hx
  have hrefl := State.Same.refl s x
  cases x
  case feeders => exact absurd hl hx
  case settings =>
    intro g _
    rw [State.feeder_setFeeder]
    split
    · rename_i hg; rw [hg]; exact h
    · exact .refl _
  all_goals cases f <;> exact hrefl

/-- A tracking queue in which no record has joined. -/
theorem changes_setQueue (q : List TrackRec) (h : (q.map (·.store)).Sublist s.tracked) : Changes l s (s.setQueue q) := by
  intro x _
  have hrefl := State.Same.refl s x
  cases x
  case tracked => exact h
  all_goals exact hrefl

theorem changes_firstTurn (f : Feeder) : Changes l s { s with firstTurn := f } := fun x _ => by
  have hrefl := State.Same.refl s x
  cases x <;> exact hrefl

theorem changes_now (n : Nat) : Changes l s { s with now := n } := fun x _ => by
  have hrefl := State.Same.refl s x
  cases x <;> exact hrefl

end Updates

/-! ## The tracking queue -/

theorem map_store_changeRecord (n : StoreNo) {f : TrackRec → TrackRec} (hf : ∀ r, (f r).store = r.store)
    (q : List TrackRec) : (changeRecord n f q).map (·.store) = q.map (·.store) := by
  rw [changeRecord, List.map_map]
  refine List.map_congr_left fun r _ => ?_
  simp only [Function.comp]
  split
  · exact hf r
  · rfl

theorem map_store_changeTail {f : TrackRec → TrackRec} (hf : ∀ r, (f r).store = r.store) (q : List TrackRec) :
    (changeTail f q).map (·.store) = q.map (·.store) := by
  unfold changeTail
  split
  · rfl
  · rename_i r hr
    obtain ⟨front, rfl⟩ := List.getLast?_eq_some_iff.1 hr
    simp [hf]

theorem removeRecord_sublist (n : StoreNo) (q : List TrackRec) : (removeRecord n q).Sublist q := List.filter_sublist

section Queue

variable {l : List Part} (s : State)

theorem changes_changeRecord (n : StoreNo) {f : TrackRec → TrackRec} (hf : ∀ r, (f r).store = r.store) :
    Changes l s (s.setQueue (changeRecord n f s.tracker.queue)) :=
  changes_setQueue s _ (by rw [map_store_changeRecord n hf]; exact List.Sublist.refl _)

theorem changes_changeTail {f : TrackRec → TrackRec} (hf : ∀ r, (f r).store = r.store) :
    Changes l s (s.setQueue (changeTail f s.tracker.queue)) :=
  changes_setQueue s _ (by rw [map_store_changeTail hf]; exact List.Sublist.refl _)

theorem changes_removeRecord (n : StoreNo) : Changes l s (s.setQueue (removeRecord n s.tracker.queue)) :=
  changes_setQueue s _ ((removeRecord_sublist n _).map _)

theorem changes_setDisposition (n : StoreNo) (d : Disposition) : Changes l s (s.setDisposition n d) :=
  changes_changeRecord s n fun _ => rfl

theorem changes_cancelGate (hl : .gates ∈ l) (b : BinId) : Changes l s (s.cancelGate b) := by
  unfold State.cancelGate
  refine Changes.trans (changes_setQueue s _ ?_) (changes_setGate _ hl b _)
  rw [List.map_map]
  refine (List.map_congr_left fun r _ => ?_) ▸ List.Sublist.refl _
  simp only [Function.comp]
  split <;> rfl

end Queue

/-! ## The Draw Arbiter -/

section Arbiter

variable {l : List Part} (s : State)

theorem changes_claimTarget (hl : .bins ∈ l) (f : Feeder) (t : Option BinId) : Changes l s (s.claimTarget f t) := by
  unfold State.claimTarget
  split
  · exact .refl l s
  · exact .ite (changes_setBin s hl _ _) (.refl l s)

theorem changes_advanceRecipe (hl : .feeders ∈ l) (f : Feeder) : Changes l s (s.advanceRecipe f) := by
  unfold State.advanceRecipe
  dsimp only
  split
  · exact .ite (changes_setFeeder s hl f _ ⟨rfl, rfl, rfl⟩)
      ((changes_setFeeder s hl f _ (FeederRec.roundFrame_consumed _)).trans (changes_send _ _ _))
  · exact .refl l s

theorem changes_endComplete (f : Feeder) (p : Bool) : Changes l s (s.endComplete f p) :=
  .ite (changes_send _ _ _) (.ite (changes_send _ _ _) (.refl l s))

theorem changes_grantPly (hb : .bins ∈ l) (hf : .feeders ∈ l) (f : Feeder) (e : PlyEntry) (b : BinId) (x : Sheet) :
    Changes l s (s.grantPly f e b x) := by
  unfold State.grantPly
  dsimp only
  refine Changes.trans ?_ (changes_firstTurn _ _)
  refine Changes.trans ?_ (changes_endComplete _ _ _)
  refine .trans ?_ (.ite (changes_advanceRecipe _ hf f) (.refl l _))
  refine .trans ?_ (changes_send _ _ _)
  refine .trans ?_ (.ite (changes_clearClaim _ hb f) (.refl l _))
  exact (changes_setBin s hb b _).trans (changes_setFeeder _ hf f _ (FeederRec.roundFrame_withGrant _ _))

theorem changes_startWait (hb : .bins ∈ l) (hf : .feeders ∈ l) (f : Feeder) (e : PlyEntry) :
    Changes l s (s.startWait f e) := by
  refine .trans (changes_setFeeder s hf f _ ?_) (changes_claimTarget _ hb f _)
  exact ⟨rfl, rfl, rfl⟩

theorem changes_reconsider (hb : .bins ∈ l) (hf : .feeders ∈ l) (f : Feeder) (e : PlyEntry) (w : Wait) :
    Changes l s (s.reconsider f e w) := by
  refine .ite (changes_claimTarget s hb f _) (.trans (.trans (changes_clearClaim s hb f)
    (changes_setFeeder _ hf f _ ?_)) (changes_claimTarget _ hb f _))
  rw [State.feeder_congr (s := s) (by simp)]
  exact ⟨rfl, rfl, rfl⟩

theorem changes_serveFeeder (hb : .bins ∈ l) (hf : .feeders ∈ l) (f : Feeder) : Changes l s (s.serveFeeder f).1 := by
  unfold State.serveFeeder
  split
  · exact .refl l s
  · split
    · exact changes_grantPly s hb hf _ _ _ _
    · split
      · exact changes_startWait s hb hf _ _
      · exact changes_reconsider s hb hf _ _ _

theorem changes_roundFrom (hb : .bins ∈ l) (hf : .feeders ∈ l) (k : Nat) (f : Feeder) (q : Nat) :
    Changes l s (s.roundFrom k f q) := by
  induction k generalizing s f q with
  | zero => exact .refl l s
  | succ k ih =>
    have hserve := changes_serveFeeder s hb hf f
    exact .ite (hserve.trans (ih _ _ _)) (.ite (hserve.trans (ih _ _ _)) hserve)

theorem changes_searchRoundBy (hb : .bins ∈ l) (hf : .feeders ∈ l) (f : Feeder) : Changes l s (s.searchRoundBy f) :=
  changes_roundFrom s hb hf _ f 0

theorem changes_searchRound (hb : .bins ∈ l) (hf : .feeders ∈ l) : Changes l s s.searchRound :=
  changes_searchRoundBy s hb hf _

theorem changes_setAside (hb : .bins ∈ l) (hf : .feeders ∈ l) (f : Feeder) : Changes l s (s.setAside f) := by
  refine .ite (.trans (changes_setFeeder s hf f _ ?_) (changes_clearClaim _ hb f)) (.refl l s)
  exact ⟨rfl, rfl, rfl⟩

theorem FeederRec.roundFrame_reServe (r : FeederRec) (e : PlyEntry) : r.RoundFrame (r.reServe e) := by
  unfold FeederRec.reServe
  dsimp only
  split <;> exact ⟨rfl, rfl, rfl⟩

theorem FeederRec.roundFrame_loseGrant (r : FeederRec) (n : StoreNo) : r.RoundFrame (r.loseGrant n) := by
  unfold FeederRec.loseGrant
  split
  · exact FeederRec.RoundFrame.trans ⟨rfl, rfl, rfl⟩ (FeederRec.roundFrame_reServe (r.withoutGrant n) _)
  · exact .refl r

theorem changes_revokeOne (hb : .bins ∈ l) (hf : .feeders ∈ l) (b : BinId) (f : Feeder) (n : StoreNo) :
    Changes l s (s.revokeOne b f n) :=
  ((changes_setBin s hb b _).trans (changes_setFeeder _ hf f _ (FeederRec.roundFrame_loseGrant _ n))).trans
    (changes_send _ _ _)

theorem changes_revokeBin (hb : .bins ∈ l) (hf : .feeders ∈ l) (b : BinId) (f : Feeder) :
    Changes l s (s.revokeBin b f) :=
  .trans (.trans (.foldl (fun t n => changes_revokeOne t hb hf b f n) _ s)
    (changes_raise _ (.feeder f) _ nofun)) (changes_setAside _ hb hf f)

end Arbiter

end Sys2Proof.Machine
end

section
/-! The table of what each command can change, and the statements that follow from it alone: no command stops or touches the
queue of waiting commands, a setting changes at its own requests, a counter falls at CLEAR COUNTERS and device reset. -/

namespace Sys2Proof.Machine

set_option Elab.async false

open Sys2Proof

/-! ## Single fields -/

section Fields

variable {l : List Part} (s : State)

theorem changes_mode (hl : .mode ∈ l) (m : DeviceMode) : Changes l s { s with mode := m } := by
  intro x hx
  have hrefl := State.Same.refl s x
  cases x
  case mode => exact absurd hl hx
  all_goals exact hrefl

theorem changes_pendingLayout (hl : .pendingLayout ∈ l) (y : Layout) : Changes l s { s with pendingLayout := y } := by
  intro x hx
  have hrefl := State.Same.refl s x
  cases x
  case pendingLayout => exact absurd hl hx
  all_goals exact hrefl

theorem changes_activeLayout (hl : .activeLayout ∈ l) (y : Layout) : Changes l s { s with activeLayout := y } := by
  intro x hx
  have hrefl := State.Same.refl s x
  cases x
  case activeLayout => exact absurd hl hx
  all_goals exact hrefl

theorem changes_reports (hl : .reports ∈ l) (rs : List Report) : Changes l s { s with reports := rs } := by
  intro x hx
  have hrefl := State.Same.refl s x
  cases x
  case reports => exact absurd hl hx
  all_goals exact hrefl

theorem changes_lanes (hl : .lanes ∈ l) (v : Vector LaneRec 8) : Changes l s { s with lanes := v } := by
  intro x hx
  have hrefl := State.Same.refl s x
  cases x
  case lanes => exact absurd hl hx
  all_goals exact hrefl

theorem changes_engine (hl : .engine ∈ l) (g : Option Grading) : Changes l s { s with engine := g } := by
  intro x hx
  have hrefl := State.Same.refl s x
  cases x
  case engine => exact absurd hl hx
  all_goals exact hrefl

theorem changes_lotHolds (hl : .lotHolds ∈ l) (ls : List LotNo) : Changes l s { s with lotHolds := ls } := by
  intro x hx
  have hrefl := State.Same.refl s x
  cases x
  case lotHolds => exact absurd hl hx
  all_goals exact hrefl

theorem changes_bins (hl : .bins ∈ l) (v : Vector BinRec 16) : Changes l s { s with bins := v } := by
  intro x hx
  have hrefl := State.Same.refl s x
  cases x
  case bins => exact absurd hl hx
  all_goals exact hrefl

theorem changes_emptyGates (hl : .gates ∈ l) : Changes l s s.emptyGates := by
  intro x hx
  have hrefl := State.Same.refl s x
  cases x
  case gates => exact absurd hl hx
  all_goals exact hrefl

theorem changes_counters (hl : .counters ∈ l) (v : Vector Nat 37) : Changes l s { s with counters := v } := by
  intro x hx
  have hrefl := State.Same.refl s x
  cases x
  case counters => exact absurd hl hx
  all_goals exact hrefl

theorem changes_rules (r : RuleBanks) (hb : .banks ∈ l ∨ r.bank0 = s.rules.bank0 ∧ r.bank1 = s.rules.bank1)
    (hs : .swap ∈ l ∨ r.active = s.rules.active ∧ r.armed = s.rules.armed) : Changes l s { s with rules := r } := by
  intro x hx
  have hrefl := State.Same.refl s x
  cases x
  case banks => exact hb.resolve_left hx
  case swap => exact hs.resolve_left hx
  all_goals exact hrefl

theorem changes_tracker (r : Tracker) (hp : .pos ∈ l ∨ r.pos = s.tracker.pos)
    (ht : .travel ∈ l ∨ r.residue = s.tracker.residue ∧ r.backlash = s.tracker.backlash)
    (hq : .tracked ∈ l ∨ (r.queue.map (·.store)).Sublist s.tracked) : Changes l s { s with tracker := r } := by
  intro x hx
  have hrefl := State.Same.refl s x
  cases x
  case pos => exact hp.resolve_left hx
  case travel => exact ht.resolve_left hx
  case tracked => exact hq.resolve_left hx
  all_goals exact hrefl

end Fields

/-! ## The conveyor -/

section Conveyor

variable {l : List Part} (s : State)

theorem changes_longObjectEvent : Changes l s s.longObjectEvent :=
  .ite (.trans (changes_changeTail s (by exact (by exact fun _ => rfl))) (changes_bump _ _)) (.refl l s)

theorem changes_expiryEvent (n : StoreNo) : Changes l s (s.expiryEvent n) := by
  unfold State.expiryEvent
  split
  · exact .refl l s
  · have hq : Changes l s (s.setQueue (changeRecord n TrackRec.afterExpiry s.tracker.queue)) :=
      changes_changeRecord s n fun _ => rfl
    exact .ite (.ite (hq.trans (changes_raiseAll _ .late rfl)) hq) (.refl l s)

theorem changes_countRunout (d : Disposition) : Changes l s (s.countRunout d) := by
  unfold State.countRunout
  split
  · exact changes_bump s _
  · exact .refl l s
  · exact .refl l s

theorem changes_reportUnpaired (r : TrackRec) : Changes l s (s.reportUnpaired r) := by
  unfold State.reportUnpaired
  split
  · exact .ite (.refl l s) ((changes_bump s _).trans (changes_send _ _ _))
  · exact changes_bump s _
  · exact .refl l s
  · exact .refl l s

theorem changes_endOfLineEvent (n : StoreNo) : Changes l s (s.endOfLineEvent n) := by
  unfold State.endOfLineEvent
  split
  · exact .refl l s
  · exact .ite (((changes_removeRecord s n).trans (changes_countRunout _ _)).trans (changes_reportUnpaired _ _))
      (.refl l s)

theorem changes_openGate (hg : .gates ∈ l) (b : BinId) : Changes l s (s.openGate b) := changes_setGate s hg b _

theorem changes_gateOpenEvent (hg : .gates ∈ l) (b : BinId) : Changes l s (s.gateOpenEvent b) :=
  .ite (changes_openGate s hg b) (.refl l s)

theorem changes_closeGate (hg : .gates ∈ l) (hb : .bins ∈ l) (hf : .feeders ∈ l) (b : BinId) (e : GateEntry) :
    Changes l s (s.closeGate b e) := by
  have hout : Changes l s ((s.setGate b (s.gate b).closed).setQueue (removeRecord e.store s.tracker.queue)) :=
    .trans (changes_setGate s hg b _) (changes_removeRecord _ e.store)
  have hlost : Changes l s ((((s.setGate b (s.gate b).closed).setQueue
      (removeRecord e.store s.tracker.queue)).bump .lostAtGateClose).floatRelease b) :=
    (hout.trans (changes_bump _ _)).trans (changes_floatRelease _ hb b)
  exact .ite ((hout.trans (changes_setBin _ hb b _)).trans (changes_floatRelease _ hb b))
    (.ite (hlost.trans (changes_searchRound _ hb hf)) hlost)

theorem changes_gateCloseEvent (hg : .gates ∈ l) (hb : .bins ∈ l) (hf : .feeders ∈ l) (b : BinId) :
    Changes l s (s.gateCloseEvent b) := by
  unfold State.gateCloseEvent
  split
  · exact .ite (changes_closeGate s hg hb hf b _) (.refl l s)
  · exact .refl l s

theorem changes_settlePosition (hg : .gates ∈ l) (hb : .bins ∈ l) (hf : .feeders ∈ l) :
    Changes l s s.settlePosition :=
  ((((changes_longObjectEvent s).trans (.foldl (fun t n => changes_expiryEvent t n) _ _)).trans
    (.foldl (fun t b => changes_gateOpenEvent t hg b) _ _)).trans
      (.foldl (fun t b => changes_gateCloseEvent t hg hb hf b) _ _)).trans
        (.foldl (fun t n => changes_endOfLineEvent t n) _ _)

theorem changes_clearConveyor (ht : .travel ∈ l) (hg : .gates ∈ l) (hb : .bins ∈ l) : Changes l s s.clearConveyor :=
  ((changes_tracker s _ (by exact .inr rfl) (.inl ht) (by exact .inr (List.nil_sublist _))).trans (changes_emptyGates _ hg)).trans
    (changes_bins _ hb _)

theorem changes_roundIfInboundGone (hb : .bins ∈ l) (hf : .feeders ∈ l) (before : State) :
    Changes l s (s.roundIfInboundGone before) := .ite (changes_searchRound s hb hf) (.refl l s)

theorem changes_takeReversal (ht : .travel ∈ l) (hg : .gates ∈ l) (hb : .bins ∈ l) (hf : .feeders ∈ l) :
    Changes l s s.takeReversal :=
  (((changes_clearConveyor s ht hg hb).trans (changes_bumpBy _ _ _)).trans (changes_raiseAll _ _ rfl)).trans
    (changes_roundIfInboundGone _ hb hf _)

theorem changes_setResidue (ht : .travel ∈ l) (n : Nat) : Changes l s (s.setResidue n) :=
  changes_tracker s _ (by exact .inr rfl) (.inl ht) (by exact .inr (List.Sublist.refl _))

theorem Tracker.forwardStep_queue (t : Tracker) : t.forwardStep.queue = t.queue := by
  unfold Tracker.forwardStep
  split <;> rfl

theorem changes_forwardPulse (hp : .pos ∈ l) (ht : .travel ∈ l) : Changes l s s.forwardPulse := by
  have hstep : Changes l (s.setResidue 0)
      { s.setResidue 0 with tracker := (s.setResidue 0).tracker.forwardStep } :=
    changes_tracker _ _ (.inl hp) (.inl ht) (.inr (by rw [Tracker.forwardStep_queue]; exact List.Sublist.refl _))
  exact .ite ((changes_setResidue s ht 0).trans hstep) (changes_setResidue s ht _)

theorem changes_reversePulse (ht : .travel ∈ l) (hg : .gates ∈ l) (hb : .bins ∈ l) (hf : .feeders ∈ l) :
    Changes l s s.reversePulse :=
  .ite ((changes_setResidue s ht _).trans (.ite
      (changes_tracker _ _ (by exact .inr rfl) (.inl ht) (by exact .inr (List.Sublist.refl _)))
      (changes_takeReversal _ ht hg hb hf)))
    (changes_setResidue s ht _)

theorem changes_eye (e : EyeState) : Changes l s { s with tracker := { s.tracker with eye := e } } :=
  changes_tracker s _ (by exact .inr rfl) (by exact .inr ⟨rfl, rfl⟩) (by exact .inr (List.Sublist.refl _))

theorem changes_untrackedEdge : Changes l s s.untrackedEdge := (changes_eye s _).trans (changes_bump _ _)

theorem changes_trackedEdge (hl : .tracked ∈ l) : Changes l s s.trackedEdge :=
  (changes_tracker s _ (by exact .inr rfl) (by exact .inr ⟨rfl, rfl⟩) (.inl hl)).trans (changes_bump _ _)

theorem changes_trackedTrailingEdge (n : Nat) : Changes l s (s.trackedTrailingEdge n) :=
  .ite (((changes_eye s .clear).trans (changes_setQueue _ _ ((List.dropLast_sublist _).map _))).trans (changes_bump _ _))
    ((changes_eye s .clear).trans (changes_changeTail s.clearEye (by exact fun _ => rfl)))

end Conveyor

/-! ## Pairing, LINE RESTART and completion -/

section Grading

variable {l : List Part} (s : State)

theorem changes_takeHead (hr : .reports ∈ l) (hl : .lanes ∈ l) (r : Report) (rest : List Report) :
    Changes l s (s.takeHead r rest) := (changes_reports s hr rest).trans (changes_lanes _ hl _)

theorem changes_orphan (hr : .reports ∈ l) (hl : .lanes ∈ l) (r : Report) (rest : List Report) :
    Changes l s (s.orphan r rest) :=
  (((changes_takeHead s hr hl r rest).trans (changes_send _ _ _)).trans (changes_raiseAll _ _ rfl)).trans
    (changes_bump _ _)

theorem changes_pairWith (hr : .reports ∈ l) (hl : .lanes ∈ l) (he : .engine ∈ l) (r : Report) (rest : List Report)
    (n : StoreNo) : Changes l s (s.pairWith r rest n) :=
  ((changes_takeHead s hr hl r rest).trans (changes_changeRecord (s.takeHead r rest) n (by exact fun _ => rfl))).trans
    (changes_engine _ he _)

theorem changes_skip (x : TrackRec) : Changes l s (s.skip x) :=
  (changes_changeRecord s x.store (by exact fun _ => rfl)).trans (changes_send _ _ _)

theorem changes_decidePairing (hr : .reports ∈ l) (hl : .lanes ∈ l) (he : .engine ∈ l) (r : Report)
    (rest : List Report) : Changes l s (s.decidePairing r rest) := by
  unfold State.decidePairing
  split
  · exact changes_orphan s hr hl r rest
  · refine .ite (changes_pairWith s hr hl he r rest _) ?_
    split
    · exact changes_orphan s hr hl r rest
    · exact .ite ((changes_skip s _).trans (changes_pairWith _ hr hl he r rest _)) (changes_orphan s hr hl r rest)

theorem changes_pairingEvent (hr : .reports ∈ l) (hl : .lanes ∈ l) (he : .engine ∈ l) :
    Changes l s s.pairingEvent := by
  refine .ite ?_ (.refl l s)
  split
  · exact .refl l s
  · exact (changes_decidePairing s hr hl he _ _).trans (changes_takeConditions _ _)

theorem changes_exchange (hs : .swap ∈ l) : Changes l s s.exchange :=
  (changes_rules s _ (by exact .inr ⟨rfl, rfl⟩) (.inl hs)).trans (changes_raiseAll _ _ rfl)

theorem changes_exchangeIfDue (hs : .swap ∈ l) : Changes l s s.exchangeIfDue :=
  .ite (changes_exchange s hs) (.refl l s)

theorem changes_restartLine (ht : .travel ∈ l) (hr : .reports ∈ l) (he : .engine ∈ l) (hs : .swap ∈ l)
    (hg : .gates ∈ l) (hb : .bins ∈ l) (hf : .feeders ∈ l) : Changes l s s.restartLine :=
  ((((((changes_clearConveyor s ht hg hb).trans (changes_reports _ hr [])).trans (changes_engine _ he none)).trans
    (changes_bumpBy _ _ _)).trans (changes_exchangeIfDue _ hs)).trans (changes_roundIfInboundGone _ hb hf _))

theorem changes_countGrade (x : GradeResult) : Changes l s (s.countGrade x) := by
  unfold State.countGrade
  split
  · exact changes_bump s _
  · exact .refl l s

theorem changes_routeSheet (hg : .gates ∈ l) (hb : .bins ∈ l) (r : TrackRec) (c : GradeClass) :
    Changes l s (s.routeSheet r c) := by
  refine .ite (changes_setDisposition s _ _) ?_
  split
  · exact changes_setDisposition s _ _
  · exact ((changes_setDisposition s _ _).trans (changes_setGate _ hg _ _)).trans (changes_setBin _ hb _ _)

theorem changes_settleDisposition (hg : .gates ∈ l) (hb : .bins ∈ l) (r : TrackRec) (x : GradeResult) :
    Changes l s (s.settleDisposition r x) := by
  unfold State.settleDisposition
  split
  · exact changes_routeSheet s hg hb r _
  · exact changes_setDisposition s _ _
  · exact .refl l s

theorem changes_completeRecord (hg : .gates ∈ l) (hb : .bins ∈ l) (g : Grading) (r : TrackRec) (x : GradeResult) :
    Changes l s (s.completeRecord g r x) :=
  (changes_changeRecord s g.store (by exact fun _ => rfl)).trans (changes_settleDisposition _ hg hb r x)

theorem changes_releaseEngine (he : .engine ∈ l) (hs : .swap ∈ l) : Changes l s s.releaseEngine :=
  (changes_engine s he none).trans (changes_exchangeIfDue _ hs)

theorem changes_completionEvent (he : .engine ∈ l) (hs : .swap ∈ l) (hg : .gates ∈ l) (hb : .bins ∈ l) :
    Changes l s s.completionEvent := by
  unfold State.completionEvent
  split
  · exact .refl l s
  · dsimp only
    split
    · exact ((changes_countGrade s _).trans (changes_send _ _ _)).trans (changes_releaseEngine _ he hs)
    · exact (((changes_countGrade s _).trans (changes_completeRecord _ hg hb _ _ _)).trans (changes_send _ _ _)).trans
        (changes_releaseEngine _ he hs)

end Grading

/-! ## The Grade Store -/

section Store

variable {l : List Part} (s : State)

theorem changes_land (hb : .bins ∈ l) (b : BinId) (x : InFlight) (rest : List InFlight) :
    Changes l s (s.land b x rest) := (changes_setBin s hb b _).trans (changes_bump _ _)

theorem changes_secondFailure (hg : .gates ∈ l) (hb : .bins ∈ l) (b : BinId) : Changes l s (s.secondFailure b) :=
  (((changes_setBin s hb b _).trans (changes_bumpBy _ _ _)).trans (changes_cancelGate _ hg b)).trans
    (changes_floatRelease _ hb b)

theorem changes_revokeReservations (hb : .bins ∈ l) (hf : .feeders ∈ l) (b : BinId) :
    Changes l s (s.revokeReservations b) := by
  unfold State.revokeReservations
  split
  · exact changes_revokeBin s hb hf b _
  · exact .refl l s

theorem changes_strayCheck (hg : .gates ∈ l) (hb : .bins ∈ l) (b : BinId) : Changes l s (s.strayCheck b) :=
  ((changes_setBin s hb b _).trans (changes_cancelGate _ hg b)).trans (changes_floatRelease _ hb b)

theorem changes_strayLanding (hg : .gates ∈ l) (hb : .bins ∈ l) (hf : .feeders ∈ l) (b : BinId) :
    Changes l s (s.strayLanding b) := by
  have hcheck := (changes_revokeReservations s hb hf b).trans (changes_strayCheck _ hg hb b)
  unfold State.strayLanding
  dsimp only
  split
  · exact hcheck.trans (changes_searchRoundBy _ hb hf _)
  · exact hcheck.trans (changes_searchRound _ hb hf)

theorem changes_countStray : Changes l s s.countStray := (changes_bump s _).trans (changes_raiseAll _ _ rfl)

theorem changes_countMissed : Changes l s s.countMissed := (changes_bump s _).trans (changes_raiseAll _ _ rfl)

theorem changes_landPulse (hg : .gates ∈ l) (hb : .bins ∈ l) (hf : .feeders ∈ l) (b : BinId) :
    Changes l s (s.landPulse b) := by
  have hstray : Changes l s (s.countStray.strayLanding b) :=
    (changes_countStray s).trans (changes_strayLanding _ hg hb hf b)
  unfold State.landPulse
  split
  · exact .refl l s
  · exact .refl l s
  · exact (changes_land s hb b _ _).trans (changes_searchRound _ hb hf)
  · exact ((changes_countStray s).trans (changes_secondFailure _ hg hb b)).trans (changes_searchRound _ hb hf)
  · exact hstray
  · exact hstray

theorem changes_missDrop (hg : .gates ∈ l) (hb : .bins ∈ l) (b : BinId) (x : InFlight) :
    Changes l s (s.missDrop b x) := (changes_setBin s hb b _).trans (changes_cancelGate _ hg b)

theorem changes_windowExpiry (hg : .gates ∈ l) (hb : .bins ∈ l) (hf : .feeders ∈ l) (b : BinId) (n : StoreNo) :
    Changes l s (s.windowExpiry b n) := by
  have htime (m : Nat) : Changes l s (s.reachTime m) := changes_now s _
  have hmiss (x : InFlight) : Changes l s (((s.reachTime x.expiry).missDrop b x).countMissed.searchRound) :=
    (((htime _).trans (changes_missDrop _ hg hb b x)).trans (changes_countMissed _)).trans (changes_searchRound _ hb hf)
  unfold State.windowExpiry
  split
  · exact .refl l s
  · split
    · exact hmiss _
    · exact hmiss _
    · exact (((htime _).trans (changes_countMissed _)).trans (changes_secondFailure _ hg hb b)).trans
        (changes_searchRound _ hb hf)
    · exact .refl l s
    · exact .refl l s

theorem changes_resolve (hb : .bins ∈ l) (hf : .feeders ∈ l) (b : BinId) (x : ResolveForm) :
    Changes l s (s.resolve b x) := by
  cases x
  case landed =>
    refine .trans ?_ (changes_searchRound (s.resolveLanded b) hb hf)
    unfold State.resolveLanded
    dsimp only
    split
    · exact .refl l s
    · exact (changes_setBin s hb b _).trans (changes_bump _ _)
  case lost =>
    exact (((changes_setBin s hb b _).trans (changes_bump _ _)).trans (changes_floatRelease _ hb b)).trans
      (changes_searchRound _ hb hf)
  case clear => exact (changes_setBin s hb b _).trans (changes_searchRound (s.resolveClear b) hb hf)

theorem changes_enterState (hb : .bins ∈ l) (hf : .feeders ∈ l) (b : BinId) (x : BinState) :
    Changes l s (s.enterState b x) := (changes_setBin s hb b _).trans (changes_searchRound _ hb hf)

theorem changes_lockBin (hg : .gates ∈ l) (hb : .bins ∈ l) (hf : .feeders ∈ l) (b : BinId) :
    Changes l s (s.lockBin b) :=
  ((((changes_setBin s hb b _).trans (changes_bumpBy _ _ _)).trans (changes_cancelGate _ hg b)).trans
    (changes_floatRelease _ hb b)).trans (changes_searchRound _ hb hf)

theorem changes_unloadTop (hb : .bins ∈ l) (b : BinId) (n : Nat) : Changes l s (s.unloadTop b n) :=
  ((changes_setBin s hb b _).trans (changes_bumpBy _ _ _)).trans (changes_floatRelease _ hb b)

end Store

/-! ## Calls -/

section Calls

variable {l : List Part} (s : State)

theorem changes_pickDone (hb : .bins ∈ l) (hf : .feeders ∈ l) (f : Feeder) (b : BinId) (x : Sheet) :
    Changes l s (s.pickDone f b x) := by
  refine .trans (.trans (.trans (.trans (changes_setBin s hb b _) (changes_setFeeder _ hf f _ ?_)) (changes_bump _ _))
    (changes_floatRelease _ hb b)) (changes_searchRound _ hb hf)
  exact ⟨rfl, rfl, rfl⟩

theorem changes_pickFailed (hb : .bins ∈ l) (hf : .feeders ∈ l) (f : Feeder) (b : BinId) (x : Sheet) :
    Changes l s (s.pickFailed f b x) :=
  (((((changes_setBin s hb b _).trans (changes_setFeeder (s.popTop b) hf f _
    (FeederRec.roundFrame_loseGrant _ x.store))).trans (changes_bump _ _)).trans (changes_setAside _ hb hf f)).trans
      (changes_floatRelease _ hb b)).trans (changes_searchRoundBy _ hb hf f)

theorem changes_countShortage (f : Feeder) : Changes l s (s.countShortage f) :=
  (changes_raise s (.feeder f) _ nofun).trans (changes_bump _ _)

theorem changes_callTimeout (hb : .bins ∈ l) (hf : .feeders ∈ l) (f : Feeder) (e : PlyEntry) :
    Changes l s (s.callTimeout f e) := by
  have hset : Changes l (s.clearClaim f) ((s.clearClaim f).setFeeder f
      { (s.clearClaim f).feeder f with unserved := [], waiting := none }) :=
    changes_setFeeder _ hf f _ ⟨rfl, rfl, rfl⟩
  have hend := (((changes_clearClaim s hb f).trans hset).trans (changes_send _ (.feeder f) (.callEnd .short false e.reServed
    ((s.clearClaim f).feeder f).grants.length e.origin.recipe e.origin.ply))).trans (changes_countShortage _ f)
  exact .ite (hend.trans (changes_searchRound _ hb hf)) hend

theorem changes_patchTimeout (hb : .bins ∈ l) (hf : .feeders ∈ l) (f : Feeder) : Changes l s (s.patchTimeout f) := by
  refine .trans (.trans (.trans (.trans (changes_clearClaim s hb f) (changes_setFeeder _ hf f _ ?_))
    (changes_send _ _ _)) (changes_countShortage _ f)) (changes_searchRoundBy _ hb hf f)
  exact ⟨rfl, rfl, rfl⟩

theorem changes_waitExpiry (hb : .bins ∈ l) (hf : .feeders ∈ l) (f : Feeder) : Changes l s (s.waitExpiry f) := by
  unfold State.waitExpiry
  split
  · exact (changes_now s _).trans (.ite (changes_patchTimeout _ hb hf f) (changes_callTimeout _ hb hf f _))
  · exact .refl l s

theorem FeederRec.roundFrame_flushed (r : FeederRec) : r.RoundFrame r.flushed := by
  unfold FeederRec.flushed
  split <;> exact ⟨rfl, rfl, rfl⟩

theorem changes_releaseMarks (hb : .bins ∈ l) (gs : List Grant) : Changes l s (s.releaseMarks gs) :=
  .foldl (fun t _ => changes_setBin t hb _ _) gs s

theorem State.releaseMarks_feeders (gs : List Grant) : (s.releaseMarks gs).feeders = s.feeders :=
  changes_releaseMarks (l := [.bins]) s List.mem_cons_self gs .feeders (by decide)

theorem changes_stopFeeder (hb : .bins ∈ l) (hf : .feeders ∈ l) (f : Feeder) : Changes l s (s.stopFeeder f) := by
  have hreleased := (changes_clearClaim s hb f).trans (changes_releaseMarks _ hb (s.feeder f).allGrants)
  have hidle : (((s.clearClaim f).releaseMarks (s.feeder f).allGrants).feeder f).RoundFrame
      { (s.feeder f).flushed with unserved := [], grants := [], patch := .empty, waiting := none } := by
    rw [State.feeder_congr (State.releaseMarks_feeders (s.clearClaim f) _), State.feeder_congr (s.clearClaim_feeders f)]
    exact FeederRec.RoundFrame.trans (FeederRec.roundFrame_flushed _) ⟨rfl, rfl, rfl⟩
  have hend := (hreleased.trans (changes_setFeeder _ hf f _ hidle)).trans
    (changes_send _ (.feeder f) (.callEnd .stopped false false (s.feeder f).grants.length 0 0))
  exact .trans (.ite hend (hend.trans (changes_send _ _ _))) (changes_searchRound _ hb hf)

end Calls

/-! ## What a request's body changes -/

section Bodies

variable {l : List Part} (s : State)

theorem changes_refuse (st : Status) : Changes l s (refuse st s).2 := .refl l s

theorem Changes.withoutPayload {pl : List Byte} {body : State → Reply × State} (h : Changes l s (body s).2) :
    Changes l s (withoutPayload pl body s).2 := by
  unfold Machine.withoutPayload
  split
  · exact h
  · exact .refl l s

theorem Changes.binRequest {n : Nat} {body : BinId → State → Reply × State} (h : ∀ b, Changes l s (body b s).2)
    (pl : List Byte) : Changes l s (binRequest n body pl s).2 := by
  unfold Machine.binRequest
  split
  · exact .refl l s
  · split
    · exact .refl l s
    · split
      · exact .refl l s
      · exact h _

theorem Changes.feederBody {body : Feeder → List Byte → State → Reply × State} {pl : List Byte}
    (h : ∀ g, Changes l s (body g pl s).2) (p : Port) : Changes l s (feederBody body p pl s).2 := by
  cases p
  case line => exact .refl l s
  case feeder g => exact h g

theorem changes_acceptBin {t : State} (b : BinId) (lead : List Byte) (h : Changes l s t) :
    Changes l s (acceptBin b lead t s).2 := h.trans (changes_takeConditions t s)

theorem Changes.takeFrame {code : Byte} {body : State → Reply × State} (h : Changes l s (body s).2) (p : Port)
    (f : Frame) : Changes l s (takeFrame code body p f s) := by
  unfold Machine.takeFrame
  split
  · dsimp only
    split
    · exact h.trans (changes_setParser _ p _)
    · exact (changes_raise s p _ fun _ => rfl).trans (changes_setParser _ p _)
  · exact .refl l s

end Bodies

/-! ## The table -/

/-- The parts that a command may change. -/
def touched : Instr → List Part
  | .sheetReport _ _ => [.reports]
  | .lineRestart _ _ => [.travel, .reports, .engine, .swap, .gates, .bins, .feeders]
  | .ruleWrite _ _ => [.banks]
  | .ruleSwap _ _ => [.swap]
  | .layoutWrite _ _ => [.pendingLayout]
  | .enterRun _ _ => [.mode, .activeLayout, .travel, .lanes, .bins, .feeders]
  | .enterSetup _ _ => [.mode]
  | .binDrain _ _ | .binService _ _ | .resolveLanded _ _ | .resolveLost _ _ | .resolveClear _ _ => [.bins, .feeders]
  | .binLock _ _ => [.gates, .bins, .feeders]
  | .binUnload _ _ | .binRemoveTop _ _ => [.bins]
  | .lotHold _ _ => [.lotHolds, .bins]
  | .lotRelease _ _ => [.lotHolds, .bins, .feeders]
  | .recipeLoad _ _ => [.feeders]
  | .feederSetup p _ => [.feeders, .settings p]
  | .plyCall _ _ | .patchCall _ _ | .pickDone _ _ | .pickFailed _ _ | .feederStop _ _ | .waitExpiry _ => [.bins, .feeders]
  | .setMask p _ => [.masks p]
  | .clearCounters _ _ => [.lanes, .counters]
  | .armedSwapExchange | .gradingCompletion => [.engine, .swap, .gates, .bins]
  | .encPulse d => (if d = .forward then [.pos] else []) ++ [.travel, .gates, .bins, .feeders]
  | .reversalFault => [.travel, .gates, .bins, .feeders]
  | .eyeLeadingEdge => [.tracked]
  | .pairingDecision => [.reports, .lanes, .engine]
  | .gateOpen _ => [.gates]
  | .gateClose _ | .landPulse _ | .windowExpiry _ _ => [.gates, .bins, .feeders]
  | .deviceReset _ => [.mode, .pendingLayout, .activeLayout, .pos, .travel, .tracked, .reports, .lanes, .engine, .banks,
      .swap, .gates, .bins, .lotHolds, .feeders, .settings .line, .settings (.feeder .A),
      .settings (.feeder .B), .masks .line, .masks (.feeder .A), .masks (.feeder .B), .ports, .counters]
  | _ => []

end Sys2Proof.Machine
end

section
/-! Every command changes the parts that `touched` names and no others (`changes_exec`); the statements that read this off. -/

namespace Sys2Proof.Machine

set_option Elab.async false

open Sys2Proof

/-! ## The bodies of the requests -/

theorem Changes.of_eq {l : List Part} {s t : State} (h : t = s) : Changes l s t := h ▸ .refl l t

section Bodies

variable {l : List Part} (s : State) (pl : List Byte)

theorem changes_takeReport (hr : .reports ∈ l) (p : Port) : Changes l s (takeReport p pl s).2 := by
  have hrefused (st : Status) : Changes l s (refuseReport st s).2 := changes_bump s _
  unfold takeReport
  split
  · exact hrefused _
  · split
    · exact hrefused _
    · split
      · exact hrefused _
      · split
        · exact hrefused _
        · exact (changes_reports s hr _).trans (changes_bump _ _)

theorem readTrackingBody_state (p : Port) : (readTrackingBody p pl s).2 = s := by
  unfold readTrackingBody
  split <;> rfl

theorem ruleReadBody_state (p : Port) : (ruleReadBody p pl s).2 = s := by
  unfold ruleReadBody
  split
  · split <;> rfl
  · rfl

theorem layoutReadBody_state (p : Port) : (layoutReadBody p pl s).2 = s := by
  unfold layoutReadBody
  split <;> rfl

theorem binReadBody_state (p : Port) : (binReadBody p pl s).2 = s := by
  unfold binReadBody
  split <;> rfl

theorem stackReadBody_state (p : Port) : (stackReadBody p pl s).2 = s := by
  unfold stackReadBody
  split
  · rfl
  · split <;> rfl

theorem readCountersBody_state (p : Port) : (readCountersBody p pl s).2 = s := by
  unfold readCountersBody
  split <;> rfl

theorem recipeReadBody_state (g : Feeder) : (recipeReadBody g pl s).2 = s := by
  unfold recipeReadBody
  dsimp only
  split
  · rfl
  · split <;> rfl

theorem changes_ruleWriteBody (hb : .banks ∈ l) (p : Port) : Changes l s (ruleWriteBody p pl s).2 := by
  have hswap (n : BankNo) (b : Bank) : (s.rules.setBank n b).active = s.rules.active ∧
      (s.rules.setBank n b).armed = s.rules.armed := by cases n <;> exact ⟨rfl, rfl⟩
  unfold ruleWriteBody
  split
  · exact .refl l s
  · split
    · exact .refl l s
    · split
      · exact .refl l s
      · exact changes_rules s _ (.inl hb) (.inr (hswap _ _))

theorem changes_ruleSwapBody (hs : .swap ∈ l) (p : Port) : Changes l s (ruleSwapBody p pl s).2 := by
  refine .withoutPayload s ?_
  split
  · exact .refl l s
  · split
    · exact .refl l s
    · exact .ite (changes_exchange s hs) (changes_rules s _ (.inr ⟨rfl, rfl⟩) (.inl hs))

theorem changes_layoutWriteBody (hl : .pendingLayout ∈ l) (p : Port) : Changes l s (layoutWriteBody p pl s).2 := by
  unfold layoutWriteBody
  split
  · exact .refl l s
  · split
    · exact .refl l s
    · split
      · exact .refl l s
      · exact changes_pendingLayout s hl _

theorem changes_adjustLanes (hl : .lanes ∈ l) (old new : Layout) : Changes l s (s.adjustLanes old new) :=
  changes_lanes s hl _

theorem changes_adjustBins (hb : .bins ∈ l) : Changes l s s.adjustBins := changes_bins s hb _

theorem changes_enterRun (hm : .mode ∈ l) (ha : .activeLayout ∈ l) (ht : .travel ∈ l) (hl : .lanes ∈ l) (hb : .bins ∈ l)
    (hf : .feeders ∈ l) : Changes l s s.enterRun := by
  have hset : Changes l s { s with
      activeLayout := s.pendingLayout, tracker := { s.tracker with residue := s.residueFor s.pendingLayout }, mode := .run } :=
    ((changes_activeLayout s ha s.pendingLayout).trans
      (changes_setResidue _ ht (s.residueFor s.pendingLayout))).trans (changes_mode _ hm .run)
  have hadjusted := (hset.trans (changes_adjustLanes _ hl s.activeLayout s.pendingLayout)).trans
    (changes_adjustBins _ hb)
  exact .trans (.ite (hadjusted.trans (changes_searchRound _ hb hf)) hadjusted) (changes_takeConditions _ s)

theorem changes_enterRunBody (hm : .mode ∈ l) (ha : .activeLayout ∈ l) (ht : .travel ∈ l) (hl : .lanes ∈ l)
    (hb : .bins ∈ l) (hf : .feeders ∈ l) (p : Port) : Changes l s (enterRunBody p pl s).2 := by
  refine .withoutPayload s ?_
  split
  · exact .refl l s
  · split
    · exact .refl l s
    · exact changes_enterRun s hm ha ht hl hb hf

theorem changes_enterSetupBody (hm : .mode ∈ l) (p : Port) : Changes l s (enterSetupBody p pl s).2 := by
  refine .withoutPayload s ?_
  split
  · exact .refl l s
  · split
    · exact changes_mode s hm _
    · exact .refl l s

theorem changes_drainBin (hb : .bins ∈ l) (hf : .feeders ∈ l) (b : BinId) : Changes l s (drainBin b s).2 := by
  unfold drainBin
  split
  · exact changes_acceptBin s b _ (changes_enterState s hb hf b _)
  · exact changes_acceptBin s b _ (.refl l s)
  all_goals exact .refl l s

theorem changes_serviceBin (hb : .bins ∈ l) (hf : .feeders ∈ l) (b : BinId) : Changes l s (serviceBin b s).2 := by
  unfold serviceBin
  split
  · exact changes_acceptBin s b _ (changes_enterState s hb hf b _)
  · exact changes_acceptBin s b _ (.refl l s)
  · split
    · exact .refl l s
    · exact changes_acceptBin s b _ ((changes_setBin s hb b _).trans (changes_enterState _ hb hf b _))
  all_goals exact .refl l s

theorem changes_lockBinBody (hg : .gates ∈ l) (hb : .bins ∈ l) (hf : .feeders ∈ l) (b : BinId) :
    Changes l s (lockBinBody b s).2 := by
  unfold lockBinBody
  split
  · exact .refl l s
  · exact changes_acceptBin s b _ (changes_lockBin s hg hb hf b)

theorem changes_unloadBin (hb : .bins ∈ l) (b : BinId) : Changes l s (unloadBin b s).2 := by
  unfold unloadBin
  split
  · exact .refl l s
  · exact changes_acceptBin s b _ (changes_unloadTop s hb b _)

theorem changes_removeTop (hb : .bins ∈ l) (n : Nat) (b : BinId) : Changes l s (removeTop n b s).2 := by
  unfold removeTop
  split
  · exact .refl l s
  · split
    · exact .refl l s
    · exact changes_acceptBin s b _ (changes_unloadTop s hb b _)

theorem changes_binResolveBody (hb : .bins ∈ l) (hf : .feeders ∈ l) (p : Port) : Changes l s (binResolveBody p pl s).2 := by
  unfold binResolveBody
  split
  · exact .refl l s
  · split
    · split
      · exact .refl l s
      · split
        · exact .refl l s
        · exact changes_acceptBin s _ _ (changes_resolve s hb hf _ _)
    · exact .refl l s

theorem changes_markLot (hb : .bins ∈ l) (lot : LotNo) (held : Bool) : Changes l s (s.markLot lot held) :=
  changes_mapBins s hb _

theorem changes_lotHoldBody (hl : .lotHolds ∈ l) (hb : .bins ∈ l) (p : Port) : Changes l s (lotHoldBody p pl s).2 := by
  unfold lotHoldBody
  split
  · exact .refl l s
  · split
    · exact .refl l s
    · split
      · exact .refl l s
      · exact (changes_lotHolds s hl _).trans (changes_markLot _ hb _ _)

theorem changes_lotReleaseBody (hl : .lotHolds ∈ l) (hb : .bins ∈ l) (hf : .feeders ∈ l) (p : Port) :
    Changes l s (lotReleaseBody p pl s).2 := by
  have hmarked : Changes l s
      ({ s with lotHolds := s.lotHolds.filter fun x => x ≠ lotAt pl }.markLot (lotAt pl) false) :=
    (changes_lotHolds s hl _).trans (changes_markLot _ hb _ _)
  unfold lotReleaseBody
  split
  · exact .refl l s
  · dsimp only
    split
    · exact hmarked.trans (changes_searchRound _ hb hf)
    · exact hmarked

theorem changes_recipeLoadBody (hf : .feeders ∈ l) (g : Feeder) : Changes l s (recipeLoadBody g pl s).2 := by
  unfold recipeLoadBody
  split
  · exact .refl l s
  · dsimp only
    split
    · exact changes_raise s (.feeder g) _ nofun
    · exact changes_setFeeder s hf g _ ⟨rfl, rfl, rfl⟩

theorem changes_plyCallBody (hb : .bins ∈ l) (hf : .feeders ∈ l) (g : Feeder) : Changes l s (plyCallBody g pl s).2 := by
  refine .withoutPayload s ?_
  dsimp only
  split
  · exact .refl l s
  · split
    · exact .refl l s
    · exact .trans (changes_setFeeder s hf g _ (by exact ⟨rfl, rfl, rfl⟩)) (changes_searchRoundBy _ hb hf g)

theorem changes_patchCallBody (hb : .bins ∈ l) (hf : .feeders ∈ l) (g : Feeder) :
    Changes l s (patchCallBody g pl s).2 := by
  unfold patchCallBody
  split
  · exact .refl l s
  · split
    · exact .refl l s
    · split
      · exact .refl l s
      · exact .trans (.trans (changes_setAside s hb hf g) (changes_setFeeder _ hf g _ (by exact ⟨rfl, rfl, rfl⟩)))
          (changes_searchRoundBy _ hb hf g)

theorem Changes.pickBody {g : Feeder} {accept : BinId → Sheet → State} (h : ∀ b x, Changes l s (accept b x)) :
    Changes l s (pickBody pl g s accept).2 := by
  unfold Machine.pickBody
  split
  · exact .refl l s
  · dsimp only
    split
    · exact .refl l s
    · split
      · exact .refl l s
      · split
        · exact .refl l s
        · exact h _ _

theorem changes_fetchOutcomeBody (p : Port) : Changes l s (fetchOutcomeBody p pl s).2 := by
  refine .withoutPayload s ?_
  split
  · exact .refl l s
  · rename_i o rest ho
    refine changes_setPort s p _ rfl fun h => ?_
    obtain ⟨hout, hmarks⟩ := h
    rw [ho] at hout
    exact ⟨Nat.le_of_succ_le hout, hmarks⟩

theorem changes_readFlagsBody (p : Port) : Changes l s (readFlagsBody p pl s).2 := by
  refine .withoutPayload s (changes_setPort s p _ rfl fun h => ?_)
  obtain ⟨hout, hseen, h15⟩ := h
  rw [seen_and_not_flags_eq_zero] at hseen
  refine ⟨hout, ?_, h15⟩
  rw [seen_and_not_flags_eq_zero]
  intro i hi
  rw [BitVec.getLsbD_or, Bool.or_eq_true] at hi
  exact hi.elim (hseen i) id

/-- Clearing seen flags sets no flag, and leaves each seen mark that stays on its flag. -/
theorem PortRec.Sound.clearSeen {p : Port} {r : PortRec} (h : r.Sound p) (m c : BitVec 16) :
    (r.clearSeen m c).Sound p := by
  obtain ⟨hout, hseen, h15, hline⟩ := h
  rw [seen_and_not_flags_eq_zero] at hseen
  have hflag (i : Nat) (hi : (r.clearSeen m c).flags.getLsbD i = true) : r.flags.getLsbD i = true := by
    simp only [PortRec.clearSeen, BitVec.getLsbD_or, BitVec.getLsbD_and, Bool.or_eq_true, Bool.and_eq_true] at hi
    tauto
  have hclear {i : Nat} (hi : r.flags.getLsbD i = false) : (r.clearSeen m c).flags.getLsbD i = false := by
    rw [← Bool.not_eq_true] at hi ⊢
    exact fun h' => hi (hflag i h')
  refine ⟨hout, ?_, hclear h15, fun hp => ?_⟩
  · rw [seen_and_not_flags_eq_zero]
    intro i hi
    have hlt : i < 16 := BitVec.lt_of_getLsbD hi
    have := hseen i
    simp only [PortRec.clearSeen, BitVec.getLsbD_or, BitVec.getLsbD_and, BitVec.getLsbD_not, hlt, decide_true,
      Bool.true_and, Bool.and_eq_true, Bool.or_eq_true] at hi ⊢
    tauto
  · obtain ⟨h2, h3, h4⟩ := hline hp
    exact ⟨hclear h2, hclear h3, hclear h4⟩

theorem changes_clearFlagsBody (p : Port) : Changes l s (clearFlagsBody p pl s).2 := by
  unfold clearFlagsBody
  split
  · exact .refl l s
  · exact changes_setPort s p _ rfl fun h => h.clearSeen _ _

theorem changes_zeroGroup (hc : .counters ∈ l) (m g : Nat) : Changes l s (s.zeroGroup m g) :=
  .ite (.foldl (fun t _ => changes_counters t hc _) _ s) (.refl l s)

theorem changes_clearCountersBody (hl : .lanes ∈ l) (hc : .counters ∈ l) (p : Port) :
    Changes l s (clearCountersBody p pl s).2 := by
  unfold clearCountersBody
  split
  · exact .refl l s
  · have hz := Changes.foldl (l := l) (fun t g => changes_zeroGroup t hc (byteAt pl 0) g) [0, 1, 2, 3, 4] s
    exact .ite (hz.trans (changes_lanes _ hl _)) hz

/-- A mask that changes, alone of the masks. -/
theorem changes_setMaskBody (p : Port) : Changes [.masks p] s (setMaskBody p pl s).2 := by
  unfold setMaskBody
  split
  · exact .refl _ s
  · intro x hx
    have hrefl := State.Same.refl s x
    cases x
    case masks q =>
      have hq : q ≠ p := fun h => hx (h ▸ List.mem_cons_self)
      exact congrArg PortRec.mask (s.port_setPort_ne hq _)
    case ports =>
      intro q
      rw [State.port_setPort]
      split
      · rename_i h; rw [h]; exact id
      · exact id
    all_goals exact hrefl

/-- A feeder's settings that change, and none of the other feeder. -/
theorem changes_feederSetupBody (g : Feeder) : Changes [.feeders, .settings (.feeder g)] s (feederSetupBody g pl s).2 := by
  unfold feederSetupBody
  dsimp only
  split
  · exact .refl _ s
  · split
    · exact .refl _ s
    · split
      · exact .refl _ s
      · intro x hx
        have hrefl := State.Same.refl s x
        cases x
        case feeders => exact absurd List.mem_cons_self hx
        case settings p =>
          intro f hf
          have hne : f ≠ g := fun h => hx (by simp [hf, h])
          rw [s.feeder_setFeeder_ne hne]
        all_goals cases g <;> exact hrefl

end Bodies

/-! ## The commands -/

/-- A state written out of nothing still keeps the queue of waiting commands, the one part a device reset leaves. -/
theorem changes_afterReset (x : ResetLevels) (s : State) : Changes (touched (.deviceReset x)) s (s.afterReset x) := by
  intro y hy
  cases y
  case pending => rfl
  case settings p | masks p => rcases p with _ | _ | _ <;> exact absurd (by simp [touched]) hy
  all_goals exact absurd (by simp [touched]) hy

theorem changes_requestBody {c : Instr} {p : Port} {code : Byte} {f : Frame} (hc : c.request? = some (p, code, f))
    (s : State) : Changes (touched c) s (requestBody c s).2 := by
  cases c
  case sheetReport p _ => exact changes_takeReport s _ (by simp [touched]) p
  case lineRestart =>
    exact .withoutPayload s (changes_restartLine s (by simp [touched]) (by simp [touched]) (by simp [touched])
      (by simp [touched]) (by simp [touched]) (by simp [touched]) (by simp [touched]))
  case ruleWrite p _ => exact changes_ruleWriteBody s _ (by simp [touched]) p
  case ruleSwap p _ => exact changes_ruleSwapBody s _ (by simp [touched]) p
  case layoutWrite p _ => exact changes_layoutWriteBody s _ (by simp [touched]) p
  case enterRun p _ =>
    exact changes_enterRunBody s _ (by simp [touched]) (by simp [touched]) (by simp [touched]) (by simp [touched])
      (by simp [touched]) (by simp [touched]) p
  case enterSetup p _ => exact changes_enterSetupBody s _ (by simp [touched]) p
  case binDrain => exact .binRequest s (changes_drainBin s (by simp [touched]) (by simp [touched])) _
  case binService => exact .binRequest s (changes_serviceBin s (by simp [touched]) (by simp [touched])) _
  case binLock =>
    exact .binRequest s (changes_lockBinBody s (by simp [touched]) (by simp [touched]) (by simp [touched])) _
  case binUnload => exact .binRequest s (changes_unloadBin s (by simp [touched])) _
  case binRemoveTop => exact .binRequest s (changes_removeTop s (by simp [touched]) _) _
  case resolveLanded p _ | resolveLost p _ | resolveClear p _ =>
    exact changes_binResolveBody s _ (by simp [touched]) (by simp [touched]) p
  case lotHold p _ => exact changes_lotHoldBody s _ (by simp [touched]) (by simp [touched]) p
  case lotRelease p _ => exact changes_lotReleaseBody s _ (by simp [touched]) (by simp [touched]) (by simp [touched]) p
  case recipeLoad => exact .feederBody s (changes_recipeLoadBody s _ (by simp [touched])) _
  case feederSetup q f' =>
    cases q
    case line => exact .refl _ s
    case feeder g => exact changes_feederSetupBody s _ g
  case plyCall => exact .feederBody s (changes_plyCallBody s _ (by simp [touched]) (by simp [touched])) _
  case patchCall => exact .feederBody s (changes_patchCallBody s _ (by simp [touched]) (by simp [touched])) _
  case pickDone =>
    exact .feederBody s (fun g => .pickBody s _ (changes_pickDone s (by simp [touched]) (by simp [touched]) g)) _
  case pickFailed =>
    exact .feederBody s (fun g => .pickBody s _ (changes_pickFailed s (by simp [touched]) (by simp [touched]) g)) _
  case feederStop =>
    exact .feederBody s (fun g => .withoutPayload s (changes_stopFeeder s (by simp [touched]) (by simp [touched]) g)) _
  case fetchOutcome => exact changes_fetchOutcomeBody s _ _
  case readFlags => exact changes_readFlagsBody s _ _
  case clearFlags => exact changes_clearFlagsBody s _ _
  case setMask => exact changes_setMaskBody s _ _
  case clearCounters p _ => exact changes_clearCountersBody s _ (by simp [touched]) (by simp [touched]) p
  case readTracking p _ => exact .of_eq (readTrackingBody_state s _ p)
  case ruleRead p _ => exact .of_eq (ruleReadBody_state s _ p)
  case layoutRead p _ => exact .of_eq (layoutReadBody_state s _ p)
  case binRead p _ => exact .of_eq (binReadBody_state s _ p)
  case stackRead p _ => exact .of_eq (stackReadBody_state s _ p)
  case readCounters p _ => exact .of_eq (readCountersBody_state s _ p)
  case recipeRead => exact .feederBody s (fun g => .of_eq (recipeReadBody_state s _ g)) _
  case lotList | readLanes => exact .withoutPayload s (.refl _ s)
  case callStatus => exact .feederBody s (fun _ => .withoutPayload s (.refl _ s)) _
  case badRequest => exact .refl _ s
  all_goals cases hc

/-- Every command changes no part but those that `touched` names. -/
theorem changes_exec (c : Instr) (s : State) : ∃ t, exec c s = .next t ∧ Changes (touched c) s t := by
  rcases hc : c.request? with _ | ⟨p, code, f⟩
  case some => exact ⟨_, exec_request hc s, .takeFrame s (changes_requestBody hc s) p f⟩
  cases c
  case armedSwapExchange =>
    have h := changes_completionEvent (l := touched .armedSwapExchange) s (by simp [touched]) (by simp [touched])
      (by simp [touched]) (by simp [touched])
    exact ⟨_, rfl, .ite (h.trans (changes_exchangeIfDue _ (by simp [touched]))) (.refl _ s)⟩
  case deviceReset x => exact ⟨_, rfl, changes_afterReset x s⟩
  case encPulse d =>
    have h (l : List Part) (hg : .gates ∈ l) (hb : .bins ∈ l) (hf : .feeders ∈ l) := changes_settlePosition s hg hb hf
    cases d
    case forward =>
      exact ⟨_, rfl, .trans (h _ (by simp [touched]) (by simp [touched]) (by simp [touched]))
        (changes_forwardPulse _ (by simp [touched]) (by simp [touched]))⟩
    case reverse =>
      exact ⟨_, rfl, .trans (h _ (by simp [touched]) (by simp [touched]) (by simp [touched]))
        (changes_reversePulse _ (by simp [touched]) (by simp [touched]) (by simp [touched]) (by simp [touched]))⟩
  case reversalFault =>
    exact ⟨_, rfl, .ite (.trans (changes_settlePosition s (by simp [touched]) (by simp [touched]) (by simp [touched]))
      (changes_reversePulse _ (by simp [touched]) (by simp [touched]) (by simp [touched]) (by simp [touched])))
        (.refl _ s)⟩
  case eyeLeadingEdge =>
    change ∃ t, execEyeLeadingEdge s = _ ∧ _
    unfold execEyeLeadingEdge
    split
    · split
      · exact ⟨_, rfl, changes_untrackedEdge s⟩
      · split
        · exact ⟨_, rfl, (changes_untrackedEdge s).trans (changes_raiseAll _ _ rfl)⟩
        · exact ⟨_, rfl, changes_trackedEdge s (by simp [touched])⟩
    all_goals exact ⟨_, rfl, .refl _ s⟩
  case eyeTrailingEdge =>
    change ∃ t, execEyeTrailingEdge s = _ ∧ _
    unfold execEyeTrailingEdge
    split
    · exact ⟨_, rfl, .refl _ s⟩
    · exact ⟨_, rfl, changes_eye s _⟩
    · exact ⟨_, rfl, changes_trackedTrailingEdge s _⟩
  case longObject => exact ⟨_, rfl, changes_longObjectEvent s⟩
  case decisionExpiry n => exact ⟨_, rfl, changes_expiryEvent s n⟩
  case endOfLine n => exact ⟨_, rfl, changes_endOfLineEvent s n⟩
  case pairingDecision =>
    exact ⟨_, rfl, changes_pairingEvent s (by simp [touched]) (by simp [touched]) (by simp [touched])⟩
  case gradingCompletion =>
    exact ⟨_, rfl, changes_completionEvent s (by simp [touched]) (by simp [touched]) (by simp [touched])
      (by simp [touched])⟩
  case gateOpen b => exact ⟨_, rfl, changes_gateOpenEvent s (by simp [touched]) b⟩
  case gateClose b =>
    exact ⟨_, rfl, changes_gateCloseEvent s (by simp [touched]) (by simp [touched]) (by simp [touched]) b⟩
  case landPulse b =>
    exact ⟨_, rfl, .trans (changes_landPulse s (by simp [touched]) (by simp [touched]) (by simp [touched]) b)
      (changes_takeConditions _ s)⟩
  case windowExpiry b n =>
    exact ⟨_, rfl, .trans (changes_windowExpiry s (by simp [touched]) (by simp [touched]) (by simp [touched]) b n)
      (changes_takeConditions _ s)⟩
  case waitExpiry g => exact ⟨_, rfl, changes_waitExpiry s (by simp [touched]) (by simp [touched]) g⟩
  case frameGivenUp p taken =>
    change ∃ t, execFrameGivenUp p taken s = _ ∧ _
    unfold execFrameGivenUp
    split
    · refine ⟨_, rfl, .ite (changes_setParser s p _) ((changes_setParser s p _).trans (changes_raise _ p _ fun _ => rfl))⟩
    all_goals exact ⟨_, rfl, .refl _ s⟩
  case selFall p =>
    change ∃ t, execSelFall p s = _ ∧ _
    unfold execSelFall
    split
    · exact ⟨_, rfl, changes_setParser s p _⟩
    all_goals exact ⟨_, rfl, .refl _ s⟩
  case emptySelection p =>
    change ∃ t, execEmptySelection p s = _ ∧ _
    unfold execEmptySelection
    split
    · exact ⟨_, rfl, changes_setParser s p _⟩
    all_goals exact ⟨_, rfl, .refl _ s⟩
  case replyReady p =>
    change ∃ t, execReplyReady p s = _ ∧ _
    unfold execReplyReady
    split
    · exact ⟨_, rfl, changes_setParser s p _⟩
    all_goals exact ⟨_, rfl, .refl _ s⟩
  case replyCheckByteSent p =>
    change ∃ t, execReplyCheckByteSent p s = _ ∧ _
    unfold execReplyCheckByteSent
    split
    · exact ⟨_, rfl, changes_setParser s p _⟩
    all_goals exact ⟨_, rfl, .refl _ s⟩
  case replyCutOff p =>
    change ∃ t, execReplyCutOff p s = _ ∧ _
    unfold execReplyCutOff
    split
    · exact ⟨_, rfl, changes_setParser s p _⟩
    · exact ⟨_, rfl, changes_setParser s p _⟩
    all_goals exact ⟨_, rfl, .refl _ s⟩
  case transactionEnd p =>
    change ∃ t, execTransactionEnd p s = _ ∧ _
    unfold execTransactionEnd
    split
    · exact ⟨_, rfl, changes_setParser s p _⟩
    all_goals exact ⟨_, rfl, .refl _ s⟩
  case discardingRelease p =>
    change ∃ t, execDiscardingRelease p s = _ ∧ _
    unfold execDiscardingRelease
    split
    · exact ⟨_, rfl, changes_setParser s p _⟩
    all_goals exact ⟨_, rfl, .refl _ s⟩
  all_goals cases hc

/-- The part `x` is kept by a command that does not touch it. -/
theorem same_of_exec {c : Instr} {s t : State} (h : exec c s = .next t) {x : Part} (hx : x ∉ touched c) : s.Same t x := by
  obtain ⟨t', h', hch⟩ := changes_exec c s
  cases h.symm.trans h'
  exact hch x hx

end Sys2Proof.Machine
end

section
/-! The statements that the table of changes gives: no command stops, settings change at their own requests, counters grow; and
the invariants of ports, queues and counters, of banks, and of layouts, modes, lanes and travel. -/

namespace Sys2Proof.Machine

set_option Elab.async false

open Sys2Proof

/-! ## Completion, settings and counters -/

/-- Settles O1. -/
theorem stepTakesFrontCommand : Obligations.StepTakesFrontCommand := by
  intro c rest s h
  rw [step, h]

/-- Settles O2: each command has its next state, and `pending` is a part no command touches. -/
theorem everyCommandCompletes : Obligations.EveryCommandCompletes := by
  intro c s
  have hexec (c : Instr) (s : State) : ∃ t, exec c s = .next t ∧ t.pending = s.pending := by
    obtain ⟨t, ht, hch⟩ := changes_exec c s
    refine ⟨t, ht, hch .pending ?_⟩
    cases c
    all_goals simp [touched]
  refine ⟨hexec c s, ?_⟩
  rcases hp : s.pending with _ | ⟨d, rest⟩
  · rcases hd : s.dueEvents.head? with _ | e
    · exact ⟨_, by rw [step, hp]; exact (by rw [idle, hd])⟩
    · obtain ⟨t, ht, -⟩ := hexec e s
      exact ⟨t, by rw [step, hp]; exact (by rw [idle, hd]; exact ht)⟩
  · obtain ⟨t, ht, -⟩ := hexec d { s with pending := rest }
    exact ⟨t, by rw [step, hp]; exact ht⟩

/-- Settles O52: a command under which a setting's part has changed touches that part, and `touched` names few of them. -/
theorem settingsChangeAtTheirRequestsAlone : Obligations.SettingsChangeAtTheirRequestsAlone := by
  intro c s t h hreset
  have touches {x : Part} (hx : ¬ s.Same t x) : x ∈ touched c := by
    by_contra hn
    exact hx (same_of_exec h hn)
  refine ⟨fun hy => ?_, fun hy => ?_, fun hm => ?_, fun hb => ?_, fun hl => ?_, fun g hg => ?_, fun q hq => ?_, fun hp => ?_⟩
  · have := touches (x := .activeLayout) hy
    cases c
    case enterRun p f => exact ⟨p, f, rfl⟩
    case deviceReset x => exact absurd rfl (hreset x)
    all_goals simp [touched] at this
  · have := touches (x := .pendingLayout) hy
    cases c
    case layoutWrite p f => exact ⟨p, f, rfl⟩
    case deviceReset x => exact absurd rfl (hreset x)
    all_goals simp [touched] at this
  · have := touches (x := .mode) hm
    cases c
    case enterRun p f => exact ⟨p, f, .inl rfl⟩
    case enterSetup p f => exact ⟨p, f, .inr rfl⟩
    case deviceReset x => exact absurd rfl (hreset x)
    all_goals simp [touched] at this
  · have := touches (x := .banks) fun h => hb.elim (· h.1) (· h.2)
    cases c
    case ruleWrite p f => exact ⟨p, f, rfl⟩
    case deviceReset x => exact absurd rfl (hreset x)
    all_goals simp [touched] at this
  · have := touches (x := .lotHolds) hl
    cases c
    case lotHold p f => exact ⟨p, f, .inl rfl⟩
    case lotRelease p f => exact ⟨p, f, .inr rfl⟩
    case deviceReset x => exact absurd rfl (hreset x)
    all_goals simp [touched] at this
  · have := touches (x := .settings (.feeder g)) fun h => by
      obtain ⟨hmode, hsize, htime⟩ := h g rfl
      exact hg.elim (· hsize) (·.elim (· hmode) (· htime))
    cases c
    case feederSetup p f =>
      have hp : .feeder g = p := by simpa [touched] using this
      exact ⟨f, by rw [hp]⟩
    case deviceReset x => exact absurd rfl (hreset x)
    all_goals simp [touched] at this
  · have := touches (x := .masks q) hq
    cases c
    case setMask p f =>
      have hp : q = p := by simpa [touched] using this
      exact ⟨f, by rw [hp]⟩
    case deviceReset x => exact absurd rfl (hreset x)
    all_goals simp [touched] at this
  · have := touches (x := .pos) hp
    cases c
    case encPulse d =>
      have hd : d = .forward := by simpa [touched] using this
      rw [hd]
    case deviceReset x => exact absurd rfl (hreset x)
    all_goals simp [touched] at this

/-- Settles O53: every command keeps the counters from falling but the two that touch them. -/
theorem countersOnlyGrow : Obligations.CountersOnlyGrow := by
  intro c s t h hreset hclear hb k
  have hsame : s.Same t .counters := same_of_exec h (by
    intro hc
    cases c
    case clearCounters p f => exact hclear p f rfl
    case deviceReset x => exact hreset x rfl
    all_goals simp [touched] at hc)
  exact (hsame k (hb k)).1

/-! ## Invariants along a step -/

/-- What every command keeps, and a change of the queue of waiting commands or of the time does not touch, a step keeps. -/
theorem step_keeps {P : State → Prop} (hpend : ∀ s l, P s → P { s with pending := l })
    (hnow : ∀ s n, P s → P { s with now := n }) (hexec : ∀ c s t, exec c s = .next t → P s → P t) {s t : State}
    (h : step s = .next t) (hs : P s) : P t := by
  unfold step at h
  split at h
  · unfold idle at h
    split at h
    · exact hexec _ _ _ h hs
    · cases h
      exact hnow s _ hs
  · exact hexec _ _ _ h (hpend s _ hs)

/-- A request's frame keeps what its body keeps and the ports' own changes do not touch. -/
theorem takeFrame_keeps {P : State → Prop} (hP : ∀ {s t : State}, Changes [] s t → P s → P t) {code : Byte}
    {body : State → Reply × State} {s : State} (hs : P s) (hbody : P (body s).2) (p : Port) (f : Frame) :
    P (takeFrame code body p f s) := by
  unfold takeFrame
  split
  · dsimp only
    split
    · exact hP (changes_setParser _ p _) hbody
    · exact hP ((changes_raise s p _ fun _ => rfl).trans (changes_setParser _ p _)) hs
  · exact hs

theorem withoutPayload_keeps {P : State → Prop} {body : State → Reply × State} {s : State} (hs : P s)
    (hbody : P (body s).2) (l : List Byte) : P (withoutPayload l body s).2 := by
  unfold withoutPayload
  split
  · exact hbody
  · exact hs

theorem exec_request_keeps {P : State → Prop} (hP : ∀ {s t : State}, Changes [] s t → P s → P t) {c : Instr} {p : Port}
    {code : Byte} {f : Frame} (hc : c.request? = some (p, code, f)) {s t : State} (h : exec c s = .next t) (hs : P s)
    (hbody : P (requestBody c s).2) : P t := by
  cases (exec_request hc s).symm.trans h
  exact takeFrame_keeps hP hs hbody p f

/-! ## Ports, queues and counters (O57) -/

/-- A port as a reset leaves it. -/
theorem PortRec.sound_reset (x : Parser) (p : Port) : ({ parser := x } : PortRec).Sound p :=
  ⟨Nat.zero_le _, by simp, by simp, fun _ => by simp⟩

theorem portsSound_of_exec {c : Instr} {s t : State} (h : exec c s = .next t) (hs : s.PortsSound) : t.PortsSound := by
  by_cases hc : .ports ∈ touched c
  · cases c
    case deviceReset x =>
      cases h
      intro p
      rw [State.port_afterReset]
      exact PortRec.sound_reset _ p
    all_goals simp [touched] at hc
  · exact fun p => same_of_exec h hc p (hs p)

theorem State.counter_zero_le (s : State) (c k : Counter) : (s.zero c).counter k ≤ s.counter k := by
  unfold State.counter State.zero
  simp only [Fin.getElem_fin, Vector.getElem_set]
  split
  · exact Nat.zero_le _
  · exact le_refl _

theorem foldl_keeps {α β : Type} {P : β → Prop} {f : β → α → β} (hf : ∀ b a, P b → P (f b a)) (as : List α) {b : β}
    (hb : P b) : P (as.foldl f b) := by
  induction as generalizing b with
  | nil => exact hb
  | cons a as ih => exact ih (hf b a hb)

theorem countersBounded_zeroGroup {s : State} (hs : s.CountersBounded) (m g : Nat) : (s.zeroGroup m g).CountersBounded := by
  unfold State.zeroGroup
  split
  · exact foldl_keeps (P := State.CountersBounded) (fun t c ht k => (t.counter_zero_le c k).trans (ht k)) _ hs
  · exact hs

theorem countersBounded_of_exec {c : Instr} {s t : State} (h : exec c s = .next t) (hs : s.CountersBounded) :
    t.CountersBounded := by
  have hkeep {s t : State} (hsame : s.Same t .counters) (hs : s.CountersBounded) : t.CountersBounded :=
    fun k => (hsame k (hs k)).2
  by_cases hc : .counters ∈ touched c
  · cases c
    case deviceReset x =>
      cases h
      intro k
      change (Vector.replicate 37 0)[k.index] ≤ _
      simp
    case clearCounters p f =>
      refine exec_request_keeps (fun h' => hkeep (h' _ (by simp))) rfl h hs ?_
      change (clearCountersBody p f.payload s).2.CountersBounded
      unfold clearCountersBody
      split
      · exact hs
      · have hz := foldl_keeps (P := State.CountersBounded)
          (fun t g (ht : t.CountersBounded) => countersBounded_zeroGroup ht (byteAt f.payload 0) g) [0, 1, 2, 3, 4] hs
        dsimp only
        split
        · exact hz
        · exact hz
    all_goals simp [touched] at hc
  · exact hkeep (same_of_exec h hc) hs

/-- The queues' bounds rest on three parts. -/
theorem State.QueuesBounded.of_same {s t : State} (hs : s.QueuesBounded) (hq : s.Same t .tracked)
    (hr : s.Same t .reports) (hl : s.Same t .lotHolds) : t.QueuesBounded := by
  obtain ⟨hqueue, hreports, hlots⟩ := hs
  have hle := List.Sublist.length_le hq
  simp only [State.tracked, List.length_map] at hle
  exact ⟨hle.trans hqueue, hr ▸ hreports, hl ▸ hlots⟩

theorem queuesBounded_takeReport {s : State} (hs : s.QueuesBounded) (p : Port) (l : List Byte) :
    (takeReport p l s).2.QueuesBounded := by
  unfold takeReport
  split
  · exact hs
  · split
    · exact hs
    · split
      · exact hs
      · split
        · exact hs
        · rename_i hroom
          obtain ⟨hqueue, -, hlots⟩ := hs
          refine ⟨hqueue, ?_, hlots⟩
          change (_ ++ [_]).length ≤ _
          simpa using Nat.lt_of_not_le hroom

theorem queuesBounded_lotHoldBody {s : State} (hs : s.QueuesBounded) (p : Port) (l : List Byte) :
    (lotHoldBody p l s).2.QueuesBounded := by
  unfold lotHoldBody
  split
  · exact hs
  · split
    · exact hs
    · split
      · exact hs
      · rename_i hheld hroom
        obtain ⟨hqueue, hreports, hlots, hnodup⟩ := hs
        refine ⟨hqueue, hreports, ?_, ?_⟩
        · change (_ ++ [_]).length ≤ _
          simpa using Nat.lt_of_not_le hroom
        · change (_ ++ [_]).Nodup
          have hnew : lotAt l ∉ s.lotHolds := by simpa [State.isHeld] using hheld
          exact List.nodup_append.2 ⟨hnodup, List.nodup_singleton _, by simpa using fun a ha => ne_of_mem_of_not_mem ha hnew⟩

theorem queuesBounded_lotReleaseBody {s : State} (hs : s.QueuesBounded) (p : Port) (l : List Byte) :
    (lotReleaseBody p l s).2.QueuesBounded := by
  unfold lotReleaseBody
  split
  · exact hs
  · obtain ⟨hqueue, hreports, hlots, hnodup⟩ := hs
    have hmarked : ({ s with lotHolds := s.lotHolds.filter fun x => x ≠ lotAt l }.markLot (lotAt l) false).QueuesBounded :=
      ⟨hqueue, hreports, (List.length_filter_le _ _).trans hlots, hnodup.filter _⟩
    dsimp only
    split
    · have hround := changes_searchRound (l := [.bins, .feeders])
        ({ s with lotHolds := s.lotHolds.filter fun x => x ≠ lotAt l }.markLot (lotAt l) false) (by simp) (by simp)
      exact hmarked.of_same (hround _ (by simp)) (hround _ (by simp)) (hround _ (by simp))
    · exact hmarked

theorem State.decidePairing_reports (s : State) (r : Report) (rest : List Report) :
    (s.decidePairing r rest).reports = rest := by
  have horphan : (s.orphan r rest).reports = rest := by
    simp [State.orphan, State.takeHead, State.updateLanes]
  unfold State.decidePairing
  split
  · exact horphan
  · split
    · rfl
    · split
      · exact horphan
      · split
        · rfl
        · exact horphan

theorem queuesBounded_pairingEvent {s : State} (hs : s.QueuesBounded) : s.pairingEvent.QueuesBounded := by
  unfold State.pairingEvent
  split
  · split
    · exact hs
    · rename_i r rest hr
      have hch := (changes_decidePairing (l := [.reports, .lanes, .engine]) s (by simp) (by simp) (by simp) r rest).trans
        (changes_takeConditions _ s)
      have hdecided := (changes_takeConditions (l := []) (s.decidePairing r rest) s) .reports (by simp)
      have hreports : ((s.decidePairing r rest).takeConditions s).reports = rest :=
        Eq.trans hdecided (s.decidePairing_reports r rest)
      obtain ⟨hqueue, hlen, hlots⟩ := hs
      have hle := List.Sublist.length_le (hch .tracked (by simp))
      simp only [State.tracked, List.length_map] at hle
      refine ⟨hle.trans hqueue, ?_, (hch .lotHolds (by simp) : _ = _) ▸ hlots⟩
      rw [hreports]
      rw [hr] at hlen
      exact Nat.le_of_succ_le hlen
  · exact hs

/-- What LINE RESTART changes after the conveyor's accounts, the reports and the grading have gone. -/
theorem changes_restartLine_cleared (s : State) :
    Changes [.swap, .bins, .feeders] { s.clearConveyor with reports := [], engine := none } s.restartLine :=
  ((changes_bumpBy _ _ _).trans (changes_exchangeIfDue _ (by simp))).trans
    (changes_roundIfInboundGone _ (by simp) (by simp) s)

theorem queuesBounded_of_exec {c : Instr} {s t : State} (h : exec c s = .next t) (hs : s.QueuesBounded) :
    t.QueuesBounded := by
  have hports {s t : State} (h' : Changes [] s t) (hs : s.QueuesBounded) : t.QueuesBounded :=
    hs.of_same (h' _ (by simp)) (h' _ (by simp)) (h' _ (by simp))
  by_cases hc : .tracked ∈ touched c ∨ .reports ∈ touched c ∨ .lotHolds ∈ touched c
  · cases c
    case sheetReport p f => exact exec_request_keeps hports rfl h hs (queuesBounded_takeReport hs p _)
    case lotHold p f => exact exec_request_keeps hports rfl h hs (queuesBounded_lotHoldBody hs p _)
    case lotRelease p f => exact exec_request_keeps hports rfl h hs (queuesBounded_lotReleaseBody hs p _)
    case lineRestart p f =>
      refine exec_request_keeps hports rfl h hs (withoutPayload_keeps hs ?_ _)
      have hch := changes_restartLine_cleared s
      obtain ⟨-, -, hlots⟩ := hs
      refine ⟨?_, ?_, (hch .lotHolds (by simp) : _ = _) ▸ hlots⟩
      · have := List.Sublist.length_le (hch .tracked (by simp))
        simp only [State.tracked, List.length_map] at this
        exact this.trans (Nat.zero_le _)
      · rw [(hch .reports (by simp) : _ = _)]
        exact Nat.zero_le _
    case deviceReset x =>
      cases h
      exact ⟨Nat.zero_le _, Nat.zero_le _, Nat.zero_le _, List.nodup_nil⟩
    case eyeLeadingEdge =>
      change execEyeLeadingEdge s = _ at h
      unfold execEyeLeadingEdge at h
      split at h
      · split at h
        · cases h; exact hs
        · split at h
          · cases h; exact hs
          · rename_i hroom
            cases h
            obtain ⟨-, hrest⟩ := hs
            refine ⟨?_, hrest⟩
            change (_ ++ [_]).length ≤ _
            simpa using Nat.lt_of_not_le hroom
      · cases h; exact hs
      · cases h; exact hs
    case pairingDecision =>
      cases h
      exact queuesBounded_pairingEvent hs
    all_goals simp [touched] at hc
  · simp only [not_or] at hc
    obtain ⟨hq, hr, hl⟩ := hc
    exact hs.of_same (same_of_exec h hq) (same_of_exec h hr) (same_of_exec h hl)

/-- Settles O57. -/
theorem portsQueuesAndCountersStaySound : Obligations.PortsQueuesAndCountersStaySound := by
  intro s t h
  exact ⟨step_keeps (fun _ _ hs => hs) (fun _ _ hs => hs) (fun _ _ _ => portsSound_of_exec) h,
    step_keeps (fun _ _ hs => hs) (fun _ _ hs => hs) (fun _ _ _ => queuesBounded_of_exec) h,
    step_keeps (fun _ _ hs => hs) (fun _ _ hs => hs) (fun _ _ _ => countersBounded_of_exec) h⟩

end Sys2Proof.Machine
end

section
/-! The rule banks stay valid and a swap waits for a grading (R62, R65, R68, R69); layouts, modes, lanes and travel stay sound
(R6, R8, R16, R171, R175). -/

namespace Sys2Proof.Machine

set_option Elab.async false

open Sys2Proof

/-! ## The rule banks -/

/-- Validity rests on the contents of the banks, the active index and the mark. -/
theorem State.BanksValid.of_same {s t : State} (hs : s.BanksValid) (hb : s.Same t .banks) (hw : s.Same t .swap) :
    t.BanksValid := by
  obtain ⟨h0, h1⟩ := hb
  obtain ⟨hactive, harmed⟩ := hw
  have hbank (n : BankNo) : t.rules.bank n = s.rules.bank n := by cases n <;> assumption
  unfold State.BanksValid RuleBanks.standby at *
  rwa [hbank, hbank, hactive, harmed]

theorem State.BanksValid.of_changes {l : List Part} {s t : State} (hs : s.BanksValid) (h : Changes l s t)
    (hb : .banks ∉ l := by simp) (hw : .swap ∉ l := by simp) : t.BanksValid := hs.of_same (h _ hb) (h _ hw)

theorem BankNo.other_other (n : BankNo) : n.other.other = n := by cases n <;> rfl

/-- The exchange of a standby bank that satisfies validation. -/
theorem banksValid_exchange {s : State} (hstandby : (s.rules.bank s.rules.standby).fault = none) :
    s.exchange.BanksValid := ⟨hstandby, nofun⟩

theorem State.BanksValid.exchangeIfDue {s : State} (hs : s.BanksValid) : s.exchangeIfDue.BanksValid := by
  unfold State.exchangeIfDue
  split
  · rename_i h
    exact banksValid_exchange (hs.2 h.1)
  · exact hs

theorem State.BanksValid.releaseEngine {s : State} (hs : s.BanksValid) : s.releaseEngine.BanksValid :=
  State.BanksValid.exchangeIfDue (s := { s with engine := none }) hs

theorem State.BanksValid.completionEvent {s : State} (hs : s.BanksValid) : s.completionEvent.BanksValid := by
  unfold State.completionEvent
  split
  · exact hs
  · dsimp only
    split
    · exact (hs.of_changes (l := []) ((changes_countGrade s _).trans (changes_send _ _ _))).releaseEngine
    · exact (hs.of_changes (l := [.gates, .bins]) (((changes_countGrade s _).trans
        (changes_completeRecord _ (by simp) (by simp) _ _ _)).trans (changes_send _ _ _))).releaseEngine

theorem State.BanksValid.restartLine {s : State} (hs : s.BanksValid) : s.restartLine.BanksValid := by
  have hcleared : ({ s.clearConveyor with reports := [], engine := none } : State).BanksValid := hs
  have hbumped := hcleared.of_changes (l := []) (changes_bumpBy _ .restartLosses s.tracker.queue.length)
  exact hbumped.exchangeIfDue.of_changes (l := [.bins, .feeders]) (changes_roundIfInboundGone _ (by simp) (by simp) s)

/-- A write into the standby bank while no swap is armed. -/
theorem State.BanksValid.setStandby {s : State} (hs : s.BanksValid) (hw : s.rules.armed = false) (b : Bank) :
    ({ s with rules := s.rules.setBank s.rules.standby b } : State).BanksValid := by
  obtain ⟨hactive, -⟩ := hs
  unfold State.BanksValid RuleBanks.standby RuleBanks.setBank
  revert hactive
  unfold RuleBanks.bank
  rcases s.rules.active <;> simp [BankNo.other, hw]

theorem banksValid_of_exec {c : Instr} {s t : State} (h : exec c s = .next t) (hs : s.BanksValid) : t.BanksValid := by
  have hports {s t : State} (h' : Changes [] s t) (hs : s.BanksValid) : t.BanksValid := hs.of_changes h'
  by_cases hc : .banks ∈ touched c ∨ .swap ∈ touched c
  · cases c
    case ruleWrite p f =>
      refine exec_request_keeps hports rfl h hs ?_
      change (ruleWriteBody p f.payload s).2.BanksValid
      unfold ruleWriteBody
      split
      · exact hs
      · split
        · exact hs
        · split
          · exact hs
          · rename_i harmed
            exact hs.setStandby (by simpa using harmed) _
    case ruleSwap p f =>
      refine exec_request_keeps hports rfl h hs (withoutPayload_keeps hs ?_ _)
      split
      · exact hs
      · split
        · exact hs
        · rename_i hvalid
          dsimp only
          split
          · exact banksValid_exchange hvalid
          · exact ⟨hs.1, fun _ => hvalid⟩
    case lineRestart p f =>
      refine exec_request_keeps hports rfl h hs (withoutPayload_keeps hs ?_ _)
      exact hs.restartLine
    case armedSwapExchange =>
      cases h
      split
      · exact hs.completionEvent.exchangeIfDue
      · exact hs
    case gradingCompletion => cases h; exact hs.completionEvent
    case deviceReset x =>
      cases h
      have hfault : ({} : Bank).fault = none := by decide
      exact ⟨hfault, nofun⟩
    all_goals simp [touched] at hc
  · simp only [not_or] at hc
    exact hs.of_same (same_of_exec h hc.1) (same_of_exec h hc.2)

/-! ## A swap waits for a grading -/

theorem State.SwapWaits.of_same {s t : State} (hs : s.SwapWaits) (he : s.Same t .engine) (hw : s.Same t .swap) :
    t.SwapWaits := by
  obtain ⟨-, harmed⟩ := hw
  unfold State.SwapWaits at *
  rw [harmed, (he : t.engine = s.engine)]
  exact hs

theorem State.SwapWaits.of_changes {l : List Part} {s t : State} (hs : s.SwapWaits) (h : Changes l s t)
    (he : .engine ∉ l := by simp) (hw : .swap ∉ l := by simp) : t.SwapWaits := hs.of_same (h _ he) (h _ hw)

/-- After the exchange of a swap that was due, whatever stood before, no swap is armed with the engine IDLE. -/
theorem swapWaits_exchangeIfDue (s : State) : s.exchangeIfDue.SwapWaits := by
  unfold State.exchangeIfDue
  split
  · exact nofun
  · rename_i h
    exact fun harmed hidle => h ⟨harmed, hidle⟩

theorem State.SwapWaits.completionEvent {s : State} (hs : s.SwapWaits) : s.completionEvent.SwapWaits := by
  unfold State.completionEvent
  split
  · exact hs
  · dsimp only
    split <;> exact swapWaits_exchangeIfDue _

/-- A pairing decision is made with the engine IDLE, so with no swap armed. -/
theorem State.SwapWaits.pairingEvent {s : State} (hs : s.SwapWaits) : s.pairingEvent.SwapWaits := by
  by_cases hdue : s.pairingDue = true
  · have hidle : s.engine = none := by
      simp only [State.pairingDue, Bool.and_eq_true, Option.isNone_iff_eq_none] at hdue
      exact hdue.1.2
    have hswap := changes_pairingEvent (l := [.reports, .lanes, .engine]) s (by simp) (by simp) (by simp) .swap (by simp)
    intro harmed
    exact absurd hidle (hs (hswap.2 ▸ harmed))
  · rwa [State.pairingEvent, if_neg hdue]

theorem swapWaits_of_exec {c : Instr} {s t : State} (h : exec c s = .next t) (hs : s.SwapWaits) : t.SwapWaits := by
  have hports {s t : State} (h' : Changes [] s t) (hs : s.SwapWaits) : t.SwapWaits := hs.of_changes h'
  by_cases hc : .engine ∈ touched c ∨ .swap ∈ touched c
  · cases c
    case ruleSwap p f =>
      refine exec_request_keeps hports rfl h hs (withoutPayload_keeps hs ?_ _)
      split
      · exact hs
      · split
        · exact hs
        · dsimp only
          split
          · exact nofun
          · rename_i hgrading
            exact fun _ => hgrading
    case lineRestart p f =>
      refine exec_request_keeps hports rfl h hs (withoutPayload_keeps hs ?_ _)
      exact (swapWaits_exchangeIfDue _).of_changes (l := [.bins, .feeders])
        (changes_roundIfInboundGone _ (by simp) (by simp) s)
    case armedSwapExchange =>
      cases h
      split
      · exact swapWaits_exchangeIfDue _
      · exact hs
    case gradingCompletion => cases h; exact hs.completionEvent
    case pairingDecision => cases h; exact hs.pairingEvent
    case deviceReset x => cases h; exact nofun
    all_goals simp [touched] at hc
  · simp only [not_or] at hc
    exact hs.of_same (same_of_exec h hc.1) (same_of_exec h hc.2)

/-- Settles O55. -/
theorem banksStayValid : Obligations.BanksStayValid := by
  intro s t h
  exact ⟨step_keeps (fun _ _ hs => hs) (fun _ _ hs => hs) (fun _ _ _ => banksValid_of_exec) h,
    step_keeps (fun _ _ hs => hs) (fun _ _ hs => hs) (fun _ _ _ => swapWaits_of_exec) h⟩

/-! ## Layouts in range -/

theorem State.LayoutsSound.of_same {s t : State} (hs : s.LayoutsSound) (hp : s.Same t .pendingLayout)
    (ha : s.Same t .activeLayout) (hm : s.Same t .mode) : t.LayoutsSound := by
  unfold State.LayoutsSound at *
  rwa [(hp : t.pendingLayout = _), (ha : t.activeLayout = _), (hm : t.mode = _)]

theorem byteAt_lt (l : List Byte) (i : Nat) : byteAt l i < 256 := (l.getD i 0).isLt

theorem clamp_bounds {lo hi : Nat} (h : lo ≤ hi) (v : Nat) : lo ≤ clamp lo hi v ∧ clamp lo hi v ≤ hi := by
  unfold clamp
  omega

theorem clampDivide_mem (n : Nat) :
    clampDivide n = 1 ∨ clampDivide n = 2 ∨ clampDivide n = 4 ∨ clampDivide n = 8 := by
  unfold clampDivide
  split_ifs <;> simp

theorem Layout.InRange.clampLine {y : Layout} (hy : y.InRange) (l : List Byte) : ((y.withLine l).clampLine).InRange where
  laneCount := clamp_bounds (by decide) _
  divide := clampDivide_mem _
  decision := clamp_bounds (by decide) _
  lead := (clamp_bounds (by decide) _).2
  tail := (clamp_bounds (by decide) _).2
  lineEnd := clamp_bounds (by decide) _
  tolerance := (clamp_bounds (by decide) _).2
  window := clamp_bounds (by decide) _
  quality := ⟨Nat.le_of_lt_succ (byteAt_lt l 14), Nat.le_of_lt_succ (byteAt_lt l 15)⟩
  nLost := clamp_bounds (by decide) _
  nBack := clamp_bounds (by decide) _
  gate := hy.gate
  capacity := hy.capacity

theorem Layout.InRange.setBin {y : Layout} (hy : y.InRange) (b : BinId) (x : BinLayout) :
    ({ y with bins := y.bins.set b x.clamped } : Layout).InRange := by
  have hset (c : BinId) : (y.bins.set b x.clamped)[c] = if c = b then x.clamped else y.bins[c] := by
    simp only [Fin.getElem_fin, Vector.getElem_set, Fin.val_inj]
    by_cases h : b = c
    · simp [h]
    · simp [h, Ne.symm h]
  refine { hy with gate := fun c => ?_, capacity := fun c => ?_ }
  · change 3500 ≤ (y.bins.set b x.clamped)[c].gate ∧ (y.bins.set b x.clamped)[c].gate ≤ 28000
    rw [hset]
    split
    · exact clamp_bounds (by decide) _
    · exact hy.gate c
  · change 10 ≤ (y.bins.set b x.clamped)[c].capacity ∧ (y.bins.set b x.clamped)[c].capacity ≤ 200
    rw [hset]
    split
    · exact clamp_bounds (by decide) _
    · exact hy.capacity c

theorem Layout.InRange.withGroup {y sent kept : Layout} (hy : y.InRange) {l : List Byte}
    (h : y.withGroup l = some (sent, kept)) : kept.InRange := by
  unfold Layout.withGroup at h
  split at h
  · cases h
    exact hy.clampLine l
  · split at h
    · cases h
    · rw [Option.map_eq_some_iff] at h
      obtain ⟨m, -, hm⟩ := h
      cases hm
      exact hy.setBin _ _

theorem Layout.InRange.default : ({} : Layout).InRange where
  laneCount := by decide
  divide := by decide
  decision := by decide
  lead := by decide
  tail := by decide
  lineEnd := by decide
  tolerance := by decide
  window := by decide
  quality := by decide
  nLost := by decide
  nBack := by decide
  gate := by decide
  capacity := by decide

/-- The state of an ENTER RUN that passes validation, with the layout, the residue, the lanes and the bins adjusted and the
mode RUN, before its search round (R177). -/
def State.adjusted (s : State) : State :=
  (({ s with activeLayout := s.pendingLayout
             tracker := { s.tracker with residue := s.residueFor s.pendingLayout }, mode := .run } : State).adjustLanes
    s.activeLayout s.pendingLayout).adjustBins

theorem State.enterRun_eq (s : State) :
    s.enterRun = (if s.adjusted.binsChanged s then s.adjusted.searchRound else s.adjusted).takeConditions s := rfl

/-- After the adjustment ENTER RUN is a search round and the conditions. -/
theorem changes_enterRun_adjusted (s : State) : Changes [.bins, .feeders] s.adjusted s.enterRun :=
  .trans (.ite (changes_searchRound s.adjusted (by simp) (by simp)) (.refl _ _)) (changes_takeConditions _ s)

theorem layoutsSound_of_exec {c : Instr} {s t : State} (h : exec c s = .next t) (hs : s.LayoutsSound) : t.LayoutsSound := by
  have hports {s t : State} (h' : Changes [] s t) (hs : s.LayoutsSound) : t.LayoutsSound :=
    hs.of_same (h' _ (by simp)) (h' _ (by simp)) (h' _ (by simp))
  by_cases hc : .pendingLayout ∈ touched c ∨ .activeLayout ∈ touched c ∨ .mode ∈ touched c
  · have ⟨hpending, hactive, _⟩ := hs
    cases c
    case layoutWrite p f =>
      refine exec_request_keeps hports rfl h hs ?_
      change (layoutWriteBody p f.payload s).2.LayoutsSound
      unfold layoutWriteBody
      split
      · exact hs
      · split
        · exact hs
        · split
          · exact hs
          · rename_i hgroup hmode
            exact ⟨hpending.withGroup hgroup, hactive, fun hm => absurd hm hmode⟩
    case enterRun p f =>
      refine exec_request_keeps hports rfl h hs (withoutPayload_keeps hs ?_ _)
      split
      · exact hs
      · split
        · exact hs
        · have hch := changes_enterRun_adjusted s
          have hadjusted : s.adjusted.LayoutsSound := ⟨hpending, hpending, fun _ => rfl⟩
          exact hadjusted.of_same (hch _ (by simp)) (hch _ (by simp)) (hch _ (by simp))
    case enterSetup p f =>
      refine exec_request_keeps hports rfl h hs (withoutPayload_keeps hs ?_ _)
      split
      · exact hs
      · split
        · exact ⟨hpending, hactive, nofun⟩
        · exact hs
    case deviceReset x => cases h; exact ⟨.default, .default, nofun⟩
    all_goals simp [touched] at hc
  · simp only [not_or] at hc
    obtain ⟨hp, ha, hm⟩ := hc
    exact hs.of_same (same_of_exec h hp) (same_of_exec h ha) (same_of_exec h hm)

/-! ## SETUP is quiet -/

theorem State.SetupQuiet.of_same {s t : State} (hs : s.SetupQuiet) (hm : s.Same t .mode) (hq : s.Same t .tracked)
    (hr : s.Same t .reports) (he : s.Same t .engine) : t.SetupQuiet := by
  intro hsetup
  obtain ⟨hqueue, hreports, hidle⟩ := hs ((hm : t.mode = s.mode) ▸ hsetup)
  have hnone : s.tracked = [] := by rw [State.tracked, hqueue, List.map_nil]
  have htracked : t.tracked.Sublist s.tracked := hq
  rw [hnone, List.sublist_nil, State.tracked, List.map_eq_nil_iff] at htracked
  exact ⟨htracked, (hr : t.reports = _) ▸ hreports, (he : t.engine = _) ▸ hidle⟩

/-- In RUN nothing is asked. -/
theorem setupQuiet_of_run {s : State} (h : s.mode = .run) : s.SetupQuiet := fun hm => by rw [h] at hm; cases hm

theorem State.releaseEngine_mode (s : State) : s.releaseEngine.mode = s.mode := by
  unfold State.releaseEngine State.exchangeIfDue
  split <;> rfl

theorem State.SetupQuiet.completionEvent {s : State} (hs : s.SetupQuiet) : s.completionEvent.SetupQuiet := by
  have hch := changes_completionEvent (l := [.engine, .swap, .gates, .bins]) s (by simp) (by simp) (by simp) (by simp)
  by_cases hidle : s.engine = none
  · rwa [State.completionEvent, hidle]
  · exact fun hsetup => absurd (hs ((hch .mode (by simp) : s.completionEvent.mode = _) ▸ hsetup)).2.2 hidle

theorem State.SetupQuiet.pairingEvent {s : State} (hs : s.SetupQuiet) : s.pairingEvent.SetupQuiet := by
  have hch := changes_pairingEvent (l := [.reports, .lanes, .engine]) s (by simp) (by simp) (by simp)
  by_cases hdue : s.pairingDue = true
  · intro hsetup
    obtain ⟨-, hreports, -⟩ := hs ((hch .mode (by simp) : s.pairingEvent.mode = _) ▸ hsetup)
    simp [State.pairingDue, hreports] at hdue
  · rwa [State.pairingEvent, if_neg hdue]

theorem setupQuiet_takeReport {s : State} (hs : s.SetupQuiet) (p : Port) (l : List Byte) :
    (takeReport p l s).2.SetupQuiet := by
  unfold takeReport
  split
  · exact hs
  · split
    · exact hs
    · rename_i hmode
      split
      · exact hs
      · split
        · exact hs
        · exact fun hm => absurd hm hmode

theorem setupQuiet_enterSetupBody {s : State} (hs : s.SetupQuiet) (p : Port) (l : List Byte) :
    (enterSetupBody p l s).2.SetupQuiet := by
  refine withoutPayload_keeps hs ?_ l
  split
  · exact hs
  · split
    · rename_i hidle
      simp only [State.lineIdle, Bool.and_eq_true, List.isEmpty_iff, Option.isNone_iff_eq_none] at hidle
      exact fun _ => ⟨hidle.1.1, hidle.1.2, hidle.2⟩
    · exact hs

theorem setupQuiet_of_exec {c : Instr} {s t : State} (h : exec c s = .next t) (hs : s.SetupQuiet) : t.SetupQuiet := by
  have hports {s t : State} (h' : Changes [] s t) (hs : s.SetupQuiet) : t.SetupQuiet :=
    hs.of_same (h' _ (by simp)) (h' _ (by simp)) (h' _ (by simp)) (h' _ (by simp))
  by_cases hc : .mode ∈ touched c ∨ .tracked ∈ touched c ∨ .reports ∈ touched c ∨ .engine ∈ touched c
  · cases c
    case sheetReport p f => exact exec_request_keeps hports rfl h hs (setupQuiet_takeReport hs p _)
    case enterSetup p f => exact exec_request_keeps hports rfl h hs (setupQuiet_enterSetupBody hs p _)
    case lineRestart p f =>
      refine exec_request_keeps hports rfl h hs (withoutPayload_keeps hs ?_ _)
      have hch := changes_restartLine_cleared s
      have hcleared : ({ s.clearConveyor with reports := [], engine := none } : State).SetupQuiet :=
        fun _ => ⟨rfl, rfl, rfl⟩
      exact hcleared.of_same (hch _ (by simp)) (hch _ (by simp)) (hch _ (by simp)) (hch _ (by simp))
    case enterRun p f =>
      refine exec_request_keeps hports rfl h hs (withoutPayload_keeps hs ?_ _)
      split
      · exact hs
      · split
        · exact hs
        · exact setupQuiet_of_run (changes_enterRun_adjusted s .mode (by simp))
    case eyeLeadingEdge =>
      change execEyeLeadingEdge s = _ at h
      unfold execEyeLeadingEdge at h
      split at h
      · split at h
        · cases h; exact hs
        · rename_i hmode
          split at h
          · cases h; exact hs
          · cases h; exact fun hm => absurd hm hmode
      · cases h; exact hs
      · cases h; exact hs
    case armedSwapExchange =>
      cases h
      split
      · have hch := changes_exchangeIfDue (l := [.swap]) s.completionEvent (by simp)
        exact hs.completionEvent.of_same (hch _ (by simp)) (hch _ (by simp)) (hch _ (by simp)) (hch _ (by simp))
      · exact hs
    case gradingCompletion => cases h; exact hs.completionEvent
    case pairingDecision => cases h; exact hs.pairingEvent
    case deviceReset x => cases h; exact fun _ => ⟨rfl, rfl, rfl⟩
    all_goals simp [touched] at hc
  · simp only [not_or] at hc
    obtain ⟨hm, hq, hr, he⟩ := hc
    exact hs.of_same (same_of_exec h hm) (same_of_exec h hq) (same_of_exec h hr) (same_of_exec h he)

/-! ## Sound lanes -/

theorem State.LanesSound.of_same {s t : State} (hs : s.LanesSound) (hl : s.Same t .lanes)
    (ha : s.Same t .activeLayout) : t.LanesSound := by
  unfold State.LanesSound at *
  rwa [(hl : t.lanes = _), (ha : t.activeLayout = _)]

/-- A lane without runs is sound under every layout. -/
theorem LaneRec.sound_still (y : Layout) {r : LaneRec} (hbad : r.badRun = 0) (hgood : r.goodRun = 0)
    (hs : r.state ≠ .suspect) (hr : r.state ≠ .recovering) (he : r.errors ≤ Config.laneErrorMax) : r.Sound y :=
  ⟨.inr ⟨hs, hbad⟩, .inr ⟨hr, hgood⟩, he⟩

theorem LaneRec.sound_restarted (y : Layout) (r : LaneRec) : r.restarted.Sound y := by
  unfold LaneRec.restarted
  split <;> exact sound_still y rfl rfl nofun nofun (Nat.zero_le _)

theorem LaneRec.Sound.moved {y : Layout} {r : LaneRec} (h : r.Sound y) (low strong : Bool) :
    (r.moved y.nLost y.nBack low strong).Sound y := by
  have ⟨hbad, hgood, herrors⟩ := h
  have still {x : LaneState} (hs : x ≠ .suspect) (hr : x ≠ .recovering) :
      ({ state := x, badRun := 0, goodRun := 0, errors := r.errors } : LaneRec).Sound y := sound_still y rfl rfl hs hr herrors
  unfold LaneRec.moved
  split
  · rename_i hst
    split_ifs with hlow hone
    · exact still nofun nofun
    · exact ⟨.inl ⟨rfl, le_refl _, by dsimp only; omega⟩, .inr ⟨nofun, rfl⟩, herrors⟩
    · exact h
  · rename_i hst
    have hgood0 : r.goodRun = 0 := h.goodRun_eq_zero (by simp [hst])
    have ⟨hbad1, hbad2⟩ : 1 ≤ r.badRun ∧ r.badRun < y.nLost := by simpa [hst] using hbad
    split_ifs with hlow hend
    · exact ⟨.inr ⟨nofun, rfl⟩, .inr ⟨nofun, hgood0⟩, herrors⟩
    · exact ⟨.inl ⟨hst, by dsimp only; omega, by dsimp only; omega⟩, .inr ⟨by simp [hst], hgood0⟩, herrors⟩
    · exact ⟨.inr ⟨nofun, rfl⟩, .inr ⟨nofun, hgood0⟩, herrors⟩
  · rename_i hst
    split_ifs with hstrong hone
    · exact still nofun nofun
    · exact ⟨.inr ⟨nofun, rfl⟩, .inl ⟨rfl, le_refl _, by dsimp only; omega⟩, herrors⟩
    · exact h
  · rename_i hst
    have hbad0 : r.badRun = 0 := h.badRun_eq_zero (by simp [hst])
    have ⟨hgood1, hgood2⟩ : 1 ≤ r.goodRun ∧ r.goodRun < y.nBack := by simpa [hst] using hgood
    split_ifs with hstrong hend
    · exact ⟨.inr ⟨nofun, hbad0⟩, .inr ⟨nofun, rfl⟩, herrors⟩
    · exact ⟨.inr ⟨by simp [hst], hbad0⟩, .inl ⟨hst, by dsimp only; omega, by dsimp only; omega⟩, herrors⟩
    · exact ⟨.inr ⟨nofun, hbad0⟩, .inr ⟨nofun, rfl⟩, herrors⟩

theorem LaneRec.Sound.updated {y : Layout} {r : LaneRec} (h : r.Sound y) (q : Nat) : (r.updated y q).Sound y := by
  obtain ⟨hbad, hgood, -⟩ := h.moved (decide (q < y.qLow)) (!decide (q < y.qLow) && decide (y.qHigh ≤ q))
  refine ⟨hbad, hgood, ?_⟩
  have herrors := h.2.2
  unfold LaneRec.updated
  dsimp only
  split <;> omega

theorem State.LanesSound.updateLanes {s : State} (hs : s.LanesSound) (r : Report) :
    (s.updateLanes r).LanesSound := by
  intro i
  change LaneRec.Sound _ (tabulateLanes _)[i]
  rw [tabulateLanes_getElem]
  split
  · exact (hs i).updated _
  · exact hs i

/-- Of the lanes a pairing decision makes the lane update of the report alone. -/
theorem State.decidePairing_lanes (s : State) (r : Report) (rest : List Report) :
    (s.decidePairing r rest).lanes = (s.updateLanes r).lanes := by
  have horphan : (s.orphan r rest).lanes = (s.updateLanes r).lanes := by
    simp [State.orphan, State.takeHead, State.updateLanes]
  have hskip (x : TrackRec) : ((s.skip x).updateLanes r).lanes = (s.updateLanes r).lanes := by
    simp [State.skip, State.updateLanes]
  unfold State.decidePairing
  split
  · exact horphan
  · split
    · rfl
    · split
      · exact horphan
      · split
        · exact hskip _
        · exact horphan

theorem lanesSound_pairingEvent {s : State} (hs : s.LanesSound) : s.pairingEvent.LanesSound := by
  unfold State.pairingEvent
  split
  · split
    · exact hs
    · rename_i r rest _
      have hlanes : (s.decidePairing r rest).lanes = (s.updateLanes r).lanes := s.decidePairing_lanes r rest
      have hch := (changes_decidePairing (l := [.reports, .lanes, .engine]) s (by simp) (by simp) (by simp) r rest)
      have hcond := changes_takeConditions (l := []) (s.decidePairing r rest) s
      have hdecided : (s.decidePairing r rest).LanesSound :=
        (hs.updateLanes r).of_same hlanes (hch .activeLayout (by simp))
      exact hdecided.of_same (hcond _ (by simp)) (hcond _ (by simp))
  · exact hs

/-- A sound lane is sound under every layout with the same four thresholds. -/
theorem LaneRec.Sound.of_thresholds {y y' : Layout} {r : LaneRec} (h : r.Sound y) (hy : thresholdsDiffer y y' = false) :
    r.Sound y' := by
  simp only [thresholdsDiffer, Bool.or_eq_false_iff, bne_eq_false_iff_eq] at hy
  obtain ⟨⟨-, hLost⟩, hBack⟩ := hy
  unfold LaneRec.Sound at *
  rwa [← hLost, ← hBack]

theorem lanesSound_adjusted {s : State} (hs : s.LanesSound) : s.adjusted.LanesSound := by
  intro i
  change LaneRec.Sound s.pendingLayout (tabulateLanes _)[i]
  rw [tabulateLanes_getElem]
  split
  · exact LaneRec.sound_still _ rfl rfl nofun nofun (Nat.zero_le _)
  · split
    · exact LaneRec.sound_restarted _ _
    · rename_i hthresholds
      exact LaneRec.Sound.of_thresholds (y := s.activeLayout) (hs i) (by simpa using hthresholds)

theorem lanesSound_clearCountersBody {s : State} (hs : s.LanesSound) (p : Port) (l : List Byte) :
    (clearCountersBody p l s).2.LanesSound := by
  unfold clearCountersBody
  split
  · exact hs
  · have hzero : ([0, 1, 2, 3, 4].foldl (State.zeroGroup (byteAt l 0)) s).LanesSound := by
      have hch := Changes.foldl (l := [.counters]) (fun t g => changes_zeroGroup t (by simp) (byteAt l 0) g)
        [0, 1, 2, 3, 4] s
      exact hs.of_same (hch _ (by simp)) (hch _ (by simp))
    dsimp only
    split
    · intro i
      change LaneRec.Sound _ (tabulateLanes _)[i]
      rw [tabulateLanes_getElem]
      obtain ⟨hbad, hgood, -⟩ := hzero i
      exact ⟨hbad, hgood, Nat.zero_le _⟩
    · exact hzero

theorem lanesSound_of_exec {c : Instr} {s t : State} (h : exec c s = .next t) (hs : s.LanesSound) :
    t.LanesSound := by
  have hports {s t : State} (h' : Changes [] s t) (hs : s.LanesSound) : t.LanesSound :=
    hs.of_same (h' _ (by simp)) (h' _ (by simp))
  by_cases hc : .lanes ∈ touched c ∨ .activeLayout ∈ touched c
  · cases c
    case clearCounters p f => exact exec_request_keeps hports rfl h hs (lanesSound_clearCountersBody hs p _)
    case enterRun p f =>
      refine exec_request_keeps hports rfl h hs (withoutPayload_keeps hs ?_ _)
      split
      · exact hs
      · split
        · exact hs
        · have hch := changes_enterRun_adjusted s
          exact (lanesSound_adjusted hs).of_same (hch _ (by simp)) (hch _ (by simp))
    case pairingDecision => cases h; exact lanesSound_pairingEvent hs
    case deviceReset x =>
      cases h
      intro i
      change (Vector.replicate 8 ({} : LaneRec))[i].Sound _
      simp only [Fin.getElem_fin, Vector.getElem_replicate]
      exact LaneRec.sound_still _ rfl rfl nofun nofun (Nat.zero_le _)
    all_goals simp [touched] at hc
  · simp only [not_or] at hc
    exact hs.of_same (same_of_exec h hc.1) (same_of_exec h hc.2)

/-! ## Sound travel -/

theorem State.TravelSound.of_same {s t : State} (hs : s.TravelSound) (ht : s.Same t .travel)
    (ha : s.Same t .activeLayout) : t.TravelSound := by
  obtain ⟨hresidue, hbacklash⟩ := ht
  unfold State.TravelSound at *
  rwa [hresidue, hbacklash, (ha : t.activeLayout = _)]

theorem State.TravelSound.of_changes {l : List Part} {s t : State} (hs : s.TravelSound) (h : Changes l s t)
    (ht : .travel ∉ l := by simp) (ha : .activeLayout ∉ l := by simp) : t.TravelSound := hs.of_same (h _ ht) (h _ ha)

theorem Layout.InRange.divide_pos {y : Layout} (h : y.InRange) : 0 < y.divide := by
  have := h.divide
  omega

theorem Tracker.forwardStep_residue (r : Tracker) : r.forwardStep.residue = r.residue := by
  unfold Tracker.forwardStep
  split <;> rfl

theorem Tracker.forwardStep_backlash (r : Tracker) : r.forwardStep.backlash = r.backlash - 1 := by
  unfold Tracker.forwardStep
  split
  · rfl
  · dsimp only; omega

theorem State.TravelSound.settlePosition {s : State} (hs : s.TravelSound) : s.settlePosition.TravelSound :=
  hs.of_changes (changes_settlePosition (l := [.gates, .bins, .feeders]) s (by simp) (by simp) (by simp))

theorem State.TravelSound.forwardPulse {s : State} (hs : s.TravelSound) (hy : s.activeLayout.InRange) :
    s.forwardPulse.TravelSound := by
  obtain ⟨hresidue, hbacklash⟩ := hs
  unfold State.forwardPulse
  split
  · refine ⟨?_, ?_⟩
    · change (Tracker.forwardStep _).residue < _
      rw [Tracker.forwardStep_residue]
      exact hy.divide_pos
    · change (Tracker.forwardStep _).backlash ≤ _
      rw [Tracker.forwardStep_backlash]
      exact (Nat.sub_le _ _).trans hbacklash
  · rename_i hbelow
    exact ⟨Nat.lt_of_not_le hbelow, hbacklash⟩

theorem State.TravelSound.clearConveyor {s : State} (hs : s.TravelSound) : s.clearConveyor.TravelSound :=
  ⟨hs.1, Nat.zero_le _⟩

theorem State.TravelSound.takeReversal {s : State} (hs : s.TravelSound) : s.takeReversal.TravelSound :=
  hs.clearConveyor.of_changes (l := [.bins, .feeders])
    (((changes_bumpBy _ _ _).trans (changes_raiseAll _ _ rfl)).trans (changes_roundIfInboundGone _ (by simp) (by simp) s))

theorem State.TravelSound.reverseStep {s : State} (hs : s.TravelSound) : s.reverseStep.TravelSound := by
  unfold State.reverseStep
  split
  · rename_i hroom
    exact ⟨hs.1, hroom⟩
  · exact hs.takeReversal

theorem State.TravelSound.reversePulse {s : State} (hs : s.TravelSound) (hy : s.activeLayout.InRange) :
    s.reversePulse.TravelSound := by
  have ⟨hresidue, hbacklash⟩ := hs
  unfold State.reversePulse
  split
  · exact State.TravelSound.reverseStep ⟨Nat.sub_lt hy.divide_pos Nat.one_pos, hbacklash⟩
  · exact ⟨(Nat.sub_le _ _).trans_lt hresidue, hbacklash⟩

theorem travelSound_adjusted {s : State} (hs : s.TravelSound) (hy : s.LayoutsSound) : s.adjusted.TravelSound := by
  refine ⟨?_, hs.2⟩
  change s.residueFor s.pendingLayout < s.pendingLayout.divide
  unfold State.residueFor
  split
  · rename_i hdivide
    exact hdivide ▸ hs.1
  · exact hy.1.divide_pos

theorem travelSound_of_exec {c : Instr} {s t : State} (h : exec c s = .next t) (hy : s.LayoutsSound)
    (hs : s.TravelSound) : t.TravelSound := by
  have hports {s t : State} (h' : Changes [] s t) (hs : s.TravelSound) : t.TravelSound := hs.of_changes h'
  have hsettled : s.settlePosition.activeLayout.InRange := by
    rw [(changes_settlePosition (l := [.gates, .bins, .feeders]) s (by simp) (by simp) (by simp) .activeLayout (by simp) : _ = _)]
    exact hy.2.1
  by_cases hc : .travel ∈ touched c ∨ .activeLayout ∈ touched c
  · cases c
    case lineRestart p f =>
      refine exec_request_keeps hports rfl h hs (withoutPayload_keeps hs ?_ _)
      have hcleared : ({ s.clearConveyor with reports := [], engine := none } : State).TravelSound := hs.clearConveyor
      exact hcleared.of_changes (changes_restartLine_cleared s)
    case enterRun p f =>
      refine exec_request_keeps hports rfl h hs (withoutPayload_keeps hs ?_ _)
      split
      · exact hs
      · split
        · exact hs
        · exact (travelSound_adjusted hs hy).of_changes (changes_enterRun_adjusted s)
    case encPulse d =>
      cases d
      case forward =>
        obtain rfl : s.settlePosition.forwardPulse = t := by injection h
        exact hs.settlePosition.forwardPulse hsettled
      case reverse =>
        obtain rfl : s.settlePosition.reversePulse = t := by injection h
        exact hs.settlePosition.reversePulse hsettled
    case reversalFault =>
      cases h
      split
      · exact hs.settlePosition.reversePulse hsettled
      · exact hs
    case deviceReset x => cases h; exact ⟨Nat.one_pos, Nat.zero_le _⟩
    all_goals simp [touched] at hc
  · simp only [not_or] at hc
    exact hs.of_same (same_of_exec h hc.1) (same_of_exec h hc.2)

/-- Settles O56. -/
theorem layoutLanesAndTravelStaySound : Obligations.LayoutLanesAndTravelStaySound := by
  intro s t hy hq hl ht h
  exact ⟨step_keeps (fun _ _ hs => hs) (fun _ _ hs => hs) (fun _ _ _ => layoutsSound_of_exec) h hy,
    step_keeps (fun _ _ hs => hs) (fun _ _ hs => hs) (fun _ _ _ => setupQuiet_of_exec) h hq,
    step_keeps (fun _ _ hs => hs) (fun _ _ hs => hs) (fun _ _ _ => lanesSound_of_exec) h hl,
    (step_keeps (P := fun s => s.LayoutsSound ∧ s.TravelSound) (fun _ _ hs => hs) (fun _ _ hs => hs)
      (fun _ _ _ hexec hs => ⟨layoutsSound_of_exec hexec hs.1, travelSound_of_exec hexec hs.1 hs.2⟩) h ⟨hy, ht⟩).2⟩

end Sys2Proof.Machine
end

section
/-! Gates and bins stay sound (R72, R85, R92, R93, R95, R115). A gate and the record of its bin make a site; what an
operation keeps is said site by site. -/

namespace Sys2Proof.Machine

set_option Elab.async false

open Sys2Proof

/-! ## Bin records by their state (R92) -/

theorem BinRec.Sound.settled {r : BinRec} (h : r.Sound) (hs : r.state ≠ .check) :
    r.resume = none ∧ r.questioned = none ∧ r.stray = false := by
  obtain ⟨hresume, hdoubt, -⟩ := h
  simpa [hs, not_or] using And.intro hresume hdoubt

theorem BinRec.Sound.doubted {r : BinRec} (h : r.Sound) (hs : r.state = .check) :
    r.resume.isSome ∧ r.stray = !r.questioned.isSome := by
  obtain ⟨hresume, hdoubt, hone, -⟩ := h
  refine ⟨hresume.2 hs, ?_⟩
  have := hdoubt.2 hs
  cases hq : r.questioned.isSome <;> simp_all

/-- A bin without doubt in SERVICE, DRAIN or LOCKOUT. -/
theorem BinRec.sound_settled {r : BinRec} (hs : r.state ≠ .check) (hoff : r.state ≠ .off) (hresume : r.resume = none)
    (hq : r.questioned = none) (hstray : r.stray = false) (hl : r.state = .lockout → r.inFlight = []) : r.Sound := by
  refine ⟨?_, ?_, ?_, hl, fun h => absurd h hoff⟩
  · simp [hresume, hs]
  · simp [hq, hstray, hs]
  · simp [hq]

/-- A bin in CHECK. -/
theorem BinRec.sound_doubted {r : BinRec} (hs : r.state = .check) (hresume : r.resume.isSome)
    (hstray : r.stray = !r.questioned.isSome) : r.Sound := by
  refine ⟨?_, ?_, ?_, ?_, ?_⟩
  · simp [hresume, hs]
  · cases hq : r.questioned.isSome <;> simp_all
  · cases hq : r.questioned.isSome <;> simp_all
  · simp [hs]
  · simp [hs]

/-- A record in another state than OFF with the same state and doubt. -/
theorem BinRec.Sound.of_doubt {r r' : BinRec} (h : r.Sound) (hoff : r.state ≠ .off) (hs : r'.state = r.state)
    (hresume : r'.resume = r.resume) (hq : r'.questioned = r.questioned) (hstray : r'.stray = r.stray)
    (hl : r.state = .lockout → r.inFlight = [] → r'.inFlight = []) : r'.Sound := by
  obtain ⟨h1, h2, h3, h4, -⟩ := h
  refine ⟨by rwa [hs, hresume], by rwa [hs, hq, hstray], by rwa [hq, hstray], ?_, fun ho => absurd (hs ▸ ho) hoff⟩
  rw [hs]
  exact fun hlock => hl hlock (h4 hlock)

theorem BinRec.Sound.off {r : BinRec} (h : r.Sound) (hs : r.state = .off) : r = { capacity := r.capacity, gate := r.gate } :=
  h.2.2.2.2 hs

/-- A bin as device reset leaves it but for its capacity and gate distance. -/
theorem BinRec.sound_off (capacity gate : Nat) : ({ capacity := capacity, gate := gate } : BinRec).Sound :=
  ⟨by simp, by simp, by simp, by simp, fun _ => rfl⟩

/-- FLOAT release changes the class of a bin alone, and of an OFF bin nothing. -/
theorem BinRec.Sound.floatRelease {r : BinRec} (h : r.Sound) (n : Nat) : (r.floatRelease n).Sound := by
  unfold BinRec.floatRelease
  split
  · by_cases hoff : r.state = .off
    · rw [h.off hoff]
      exact sound_off _ _
    · exact h.of_doubt hoff rfl rfl rfl rfl fun _ hi => hi
  · exact h

/-! ## Sites -/

/-- The gate and the record of a bin. -/
structure Site where
  gate : Gate
  bin : BinRec

def State.site (s : State) (b : BinId) : Site := ⟨s.gate b, s.bin b⟩

/-- The inbound count (R93). -/
def Site.inbound (x : Site) : Nat := x.gate.entries + x.bin.inFlight.length

/-- The bin holds no more than it may (R93, R95). -/
def Site.Fits (x : Site) : Prop :=
  x.bin.capacity ≤ 200 ∧ x.inbound ≤ 3 ∧ x.bin.stack.length + x.inbound + bit x.bin.questioned.isSome ≤ 200

/-- A FLOAT bin with nothing has no class (R115). -/
def Site.Released (x : Site) : Prop :=
  x.bin.mode = .float → x.bin.stack = [] → x.inbound = 0 → x.bin.questioned = none → x.bin.current = none

/-- What a change keeps of a site before FLOAT release. -/
structure Site.Held (x y : Site) : Prop where
  gate : x.gate.Sound → y.gate.Sound
  bin : x.bin.Sound → y.bin.Sound
  fits : x.bin.Sound → x.Fits → y.Fits

/-- What a change keeps of a site. -/
structure Site.Kept (x y : Site) : Prop extends x.Held y where
  released : x.Released → y.Released

/-- What a change keeps of every site. -/
def State.KeepsSites (s t : State) : Prop := ∀ b, (s.site b).Kept (t.site b)

theorem Site.Held.trans {x y z : Site} (h : x.Held y) (h' : y.Held z) : x.Held z :=
  ⟨fun hs => h'.gate (h.gate hs), fun hs => h'.bin (h.bin hs), fun hs hf => h'.fits (h.bin hs) (h.fits hs hf)⟩

theorem Site.Kept.trans {x y z : Site} (h : x.Kept y) (h' : y.Kept z) : x.Kept z :=
  ⟨h.toHeld.trans h'.toHeld, fun hr => h'.released (h.released hr)⟩

theorem Site.Held.refl (x : Site) : x.Held x := ⟨id, id, fun _ => id⟩

@[refl] theorem Site.Kept.refl (x : Site) : x.Kept x := ⟨.refl x, id⟩

@[refl] theorem State.KeepsSites.refl (s : State) : s.KeepsSites s := fun _ => .refl _

theorem State.KeepsSites.trans {s t u : State} (h : s.KeepsSites t) (h' : t.KeepsSites u) : s.KeepsSites u :=
  fun b => (h b).trans (h' b)

theorem State.KeepsSites.ite {s t u : State} {c : Prop} [Decidable c] (h : s.KeepsSites t) (h' : s.KeepsSites u) :
    s.KeepsSites (if c then t else u) := by
  split
  · exact h
  · exact h'

theorem State.KeepsSites.foldl {α : Type} {f : State → α → State} (hf : ∀ (s : State) a, s.KeepsSites (f s a)) (as : List α)
    (s : State) : s.KeepsSites (as.foldl f s) := by
  induction as generalizing s with
  | nil => exact .refl s
  | cons a as ih => exact (hf s a).trans (ih _)

theorem State.site_congr {s t : State} (hg : t.gates = s.gates) (hb : t.bins = s.bins) (b : BinId) :
    t.site b = s.site b := by
  rw [State.site, State.gate_congr hg, State.bin_congr hb]
  rfl

/-- A change outside the gates and the bins. -/
theorem Changes.keepsSites {l : List Part} {s t : State} (h : Changes l s t) (hg : .gates ∉ l := by simp)
    (hb : .bins ∉ l := by simp) : s.KeepsSites t := fun b => by
  rw [State.site_congr (h _ hg) (h _ hb)]

/-! ### Changes of one site -/

theorem State.site_setBin (s : State) (b c : BinId) (r : BinRec) :
    (s.setBin b r).site c = if c = b then ⟨s.gate b, r⟩ else s.site c := by
  unfold State.site
  rw [State.bin_setBin, State.gate_congr (s := s) (t := s.setBin b r) rfl]
  split
  · rename_i h; rw [h]
  · rfl

theorem State.site_setGate (s : State) (b c : BinId) (g : Gate) :
    (s.setGate b g).site c = if c = b then ⟨g, s.bin b⟩ else s.site c := by
  unfold State.site
  rw [State.gate_setGate, State.bin_congr (s := s) (t := s.setGate b g) rfl]
  split
  · rename_i h; rw [h]
  · rfl

theorem keepsSites_setBin {s : State} {b : BinId} {r : BinRec} (h : (s.site b).Kept ⟨s.gate b, r⟩) :
    s.KeepsSites (s.setBin b r) := by
  intro c
  rw [State.site_setBin]
  split
  · rename_i hc; rw [hc]; exact h
  · exact .refl _

theorem keepsSites_setGate {s : State} {b : BinId} {g : Gate} (h : (s.site b).Kept ⟨g, s.bin b⟩) :
    s.KeepsSites (s.setGate b g) := by
  intro c
  rw [State.site_setGate]
  split
  · rename_i hc; rw [hc]; exact h
  · exact .refl _

/-- FLOAT release after a change that holds. -/
theorem Site.Held.floatRelease {x y : Site} (h : x.Held y) : x.Kept ⟨y.gate, y.bin.floatRelease y.inbound⟩ := by
  have hfields : (y.bin.floatRelease y.inbound).inFlight = y.bin.inFlight ∧
      (y.bin.floatRelease y.inbound).stack = y.bin.stack ∧ (y.bin.floatRelease y.inbound).capacity = y.bin.capacity ∧
      (y.bin.floatRelease y.inbound).questioned = y.bin.questioned ∧
      (y.bin.floatRelease y.inbound).mode = y.bin.mode := by
    unfold BinRec.floatRelease
    split <;> exact ⟨rfl, rfl, rfl, rfl, rfl⟩
  obtain ⟨hi, hstack, hc, hq, hm⟩ := hfields
  refine ⟨⟨h.gate, fun hs => (h.bin hs).floatRelease _, fun hs hf => ?_⟩, fun _ => ?_⟩
  · have := h.fits hs hf
    unfold Site.Fits Site.inbound at *
    rwa [hi, hstack, hc, hq]
  · unfold Site.Released Site.inbound at *
    intro hmode hempty hin hnone
    dsimp only at *
    rw [hm] at hmode
    rw [hstack] at hempty
    rw [hi] at hin
    rw [hq] at hnone
    rw [BinRec.floatRelease, if_pos ⟨hmode, hempty, hin, hnone⟩]

/-- A state that holds the site of `b` and leaves the others, with FLOAT release of `b`. -/
theorem keepsSites_floatRelease {s t : State} {b : BinId} (h : (s.site b).Held (t.site b))
    (hne : ∀ c, c ≠ b → t.site c = s.site c) : s.KeepsSites (t.floatRelease b) := by
  intro c
  rw [State.floatRelease, State.site_setBin]
  split
  · rename_i hc
    rw [hc]
    exact h.floatRelease
  · rename_i hc
    rw [hne c hc]

/-! ## Records that keep what a site rests on -/

/-- A record in which state, doubt, mode, class and every number of sheets stay. -/
theorem Site.kept_of_counts {g : Gate} {r r' : BinRec} (hs : r.Sound → r'.Sound) (hcap : r'.capacity = r.capacity)
    (hfl : r'.inFlight.length = r.inFlight.length) (hstack : r'.stack.length = r.stack.length)
    (hq : r'.questioned.isSome = r.questioned.isSome) (hm : r'.mode = r.mode) (hcur : r'.current = r.current) :
    Site.Kept ⟨g, r⟩ ⟨g, r'⟩ := by
  refine ⟨⟨id, hs, fun _ hf => ?_⟩, fun hr => ?_⟩
  · unfold Site.Fits Site.inbound at *
    dsimp only at *
    rwa [hcap, hfl, hstack, hq]
  · unfold Site.Released Site.inbound at *
    dsimp only at *
    intro hmode hempty hin hnone
    rw [hcur]
    refine hr (hm ▸ hmode) ?_ (hfl ▸ hin) ?_
    · rw [← List.length_eq_zero_iff] at *
      exact hstack ▸ hempty
    · rw [← Option.isNone_iff_eq_none, ← Option.not_isSome] at *
      rwa [← hq]

/-- A changed stack, of the same number of records, and a changed claim; an OFF bin gets no claim. -/
theorem Site.kept_marked {g : Gate} {r : BinRec} {c : Option Feeder} {stack : List Sheet}
    (hlen : stack.length = r.stack.length) (hoff : r.state = .off → r.claim = none → c = none) :
    Site.Kept ⟨g, r⟩ ⟨g, { r with claim := c, stack := stack }⟩ := by
  refine kept_of_counts (fun hs => ?_) rfl rfl hlen rfl rfl rfl
  by_cases ho : r.state = .off
  · have hr := hs.off ho
    have hc : c = none := hoff ho (by rw [hr])
    have hst : stack = [] := by rw [← List.length_eq_zero_iff, hlen, hr]; rfl
    rw [hr, hc, hst]
    exact BinRec.sound_off _ _
  · exact hs.of_doubt ho rfl rfl rfl rfl fun _ hi => hi

theorem keepsSites_mark (s : State) (b : BinId) (n : StoreNo) (f : Option Feeder) :
    s.KeepsSites (s.setBin b ((s.bin b).mark n f)) :=
  keepsSites_setBin (Site.kept_marked (by simp) fun _ h => h)

/-- Every record's claim and stack changed, with no claim for an OFF bin. -/
theorem keepsSites_mapBins (s : State) {f : BinRec → BinRec}
    (h : ∀ (g : Gate) (r : BinRec), Site.Kept ⟨g, r⟩ ⟨g, f r⟩) : s.KeepsSites (s.mapBins f) := by
  intro b
  unfold State.site
  rw [State.bin_mapBins, State.gate_congr (s := s) (t := s.mapBins f) rfl]
  exact h _ _

/-! ## Claims and search rounds (R152) -/

theorem keepsSites_clearClaim (s : State) (f : Feeder) : s.KeepsSites (s.clearClaim f) := by
  refine keepsSites_mapBins s fun g r => ?_
  split
  · exact Site.kept_marked rfl fun _ _ => rfl
  · exact .refl _

/-- A claim is made on a bin that is not OFF. -/
theorem keepsSites_claimTarget (s : State) (f : Feeder) {target : Option BinId}
    (h : ∀ b, target = some b → (s.bin b).state ≠ .off) : s.KeepsSites (s.claimTarget f target) := by
  unfold State.claimTarget
  split
  · exact .refl s
  · rename_i b
    exact .ite (keepsSites_setBin (Site.kept_marked rfl fun hoff => absurd hoff (h b rfl))) (.refl s)

theorem BinState.working_ne_off {x : BinState} (h : x.working = true) : x ≠ .off := by rintro rfl; cases h

theorem State.blocked_state {s : State} {f : Feeder} {sp : PlySpec} {b : BinId} (h : (s.blocked f sp b).isSome) :
    (s.bin b).state ≠ .off := by
  obtain ⟨x, hx⟩ := Option.isSome_iff_exists.1 h
  obtain ⟨hstate, -⟩ := State.blocked_eq_some.1 hx
  rcases hstate with hst | hst <;> rw [hst] <;> exact nofun

/-- The target chosen for a wait is a blocked candidate. -/
theorem State.blocked_of_bestBin {s : State} {f : Feeder} {sp : PlySpec} {b : BinId}
    (h : (s.bestBin sp (s.blocked f sp)).map (·.bin) = some b) : (s.blocked f sp b).isSome := by
  obtain ⟨c, hc, rfl⟩ := Option.map_eq_some_iff.1 h
  obtain ⟨b', -, hb'⟩ := List.mem_filterMap.1 (pickBest_mem hc)
  obtain ⟨x, hx, rfl⟩ := Option.map_eq_some_iff.1 hb'
  exact Option.isSome_of_mem hx

theorem keepsSites_setFeeder (s : State) (f : Feeder) (r : FeederRec) : s.KeepsSites (s.setFeeder f r) := fun b => by
  rw [State.site_congr (State.setFeeder_gates s f r) (State.setFeeder_bins s f r)]

theorem keepsSites_send (s : State) (p : Port) (o : OutcomeRec) : s.KeepsSites (s.send p o) :=
  (changes_send (l := []) s p o).keepsSites

theorem keepsSites_startWait (s : State) (f : Feeder) (e : PlyEntry) : s.KeepsSites (s.startWait f e) := by
  refine (keepsSites_setFeeder s f _).trans (keepsSites_claimTarget _ f fun b hb => ?_)
  rw [State.bin_congr (s := s) (by simp)]
  exact State.blocked_state (State.blocked_of_bestBin hb)

theorem keepsSites_reconsider (s : State) (f : Feeder) (e : PlyEntry) (w : Wait) : s.KeepsSites (s.reconsider f e w) := by
  unfold State.reconsider
  split
  · rename_i hstays
    refine keepsSites_claimTarget s f fun b hb => ?_
    simp only [hb, State.targetStays, Option.any_some, Bool.or_eq_true, beq_iff_eq] at hstays
    rcases hstays with hblocked | hcheck
    · exact State.blocked_state hblocked
    · rw [hcheck]; exact nofun
  · refine (keepsSites_clearClaim s f).trans ((keepsSites_setFeeder _ f _).trans (keepsSites_claimTarget _ f fun b hb => ?_))
    rw [State.bin_congr (s := s.clearClaim f) (by simp), State.bin_clearClaim]
    exact State.blocked_state (State.blocked_of_bestBin hb)

theorem keepsSites_grantPly (s : State) (f : Feeder) (e : PlyEntry) (b : BinId) (x : Sheet) :
    s.KeepsSites (s.grantPly f e b x) := by
  unfold State.grantPly
  dsimp only
  refine State.KeepsSites.trans ?_ (changes_firstTurn (l := []) _ _).keepsSites
  refine State.KeepsSites.trans ?_ (changes_endComplete (l := []) _ _ _).keepsSites
  refine .trans ?_ (.ite (changes_advanceRecipe (l := [.feeders]) _ (by simp) f).keepsSites (.refl _))
  refine .trans ?_ (keepsSites_send _ _ _)
  refine .trans ?_ (.ite (keepsSites_clearClaim _ f) (.refl _))
  exact (keepsSites_mark s b _ _).trans (keepsSites_setFeeder _ f _)

theorem keepsSites_serveFeeder (s : State) (f : Feeder) : s.KeepsSites (s.serveFeeder f).1 := by
  unfold State.serveFeeder
  split
  · exact .refl s
  · split
    · exact keepsSites_grantPly s _ _ _ _
    · split
      · exact keepsSites_startWait s _ _
      · exact keepsSites_reconsider s _ _ _

theorem keepsSites_roundFrom (s : State) (k : Nat) (f : Feeder) (q : Nat) : s.KeepsSites (s.roundFrom k f q) := by
  induction k generalizing s f q with
  | zero => exact .refl s
  | succ k ih =>
    have hserve := keepsSites_serveFeeder s f
    exact .ite (hserve.trans (ih _ _ _)) (.ite (hserve.trans (ih _ _ _)) hserve)

theorem keepsSites_searchRoundBy (s : State) (f : Feeder) : s.KeepsSites (s.searchRoundBy f) := keepsSites_roundFrom s _ f 0

theorem keepsSites_searchRound (s : State) : s.KeepsSites s.searchRound := keepsSites_searchRoundBy s _

theorem keepsSites_setAside (s : State) (f : Feeder) : s.KeepsSites (s.setAside f) :=
  .ite ((keepsSites_setFeeder s f _).trans (keepsSites_clearClaim _ f)) (.refl s)

theorem keepsSites_revokeOne (s : State) (b : BinId) (f : Feeder) (n : StoreNo) : s.KeepsSites (s.revokeOne b f n) :=
  ((keepsSites_mark s b n none).trans (keepsSites_setFeeder _ f _)).trans (keepsSites_send _ _ _)

theorem keepsSites_raise (s : State) (p : Port) (g : Flag) : s.KeepsSites (s.raise p g) := fun b => by
  rw [State.site_congr (State.raise_gates s p g) (State.raise_bins s p g)]

theorem keepsSites_revokeBin (s : State) (b : BinId) (f : Feeder) : s.KeepsSites (s.revokeBin b f) := by
  refine .trans (.trans (.foldl (fun t n => ?_) _ s) (keepsSites_raise _ _ _)) (keepsSites_setAside _ f)
  exact keepsSites_revokeOne t b f n

end Sys2Proof.Machine
end

section
/-! What each operation keeps of the sites, and the invariants of gates and bins (R72, R85, R92, R93, R95, R115). -/

namespace Sys2Proof.Machine

set_option Elab.async false

open Sys2Proof

/-! ## Gates (R82, R83, R87) -/

theorem Gate.Sound.opened {g : Gate} (h : g.Sound) (hlead : g.lead.isSome) :
    ({ g with lead := g.lead.map fun e => { e with opened := true }, output := true } : Gate).Sound := by
  obtain ⟨-, hfollow, -⟩ := h
  obtain ⟨e, he⟩ := Option.isSome_iff_exists.1 hlead
  refine ⟨?_, hfollow, ?_⟩ <;> simp [he]

theorem Gate.Sound.closed {g : Gate} (h : g.Sound) : g.closed.Sound := by
  obtain ⟨-, hfollow, -⟩ := h
  refine ⟨fun _ => rfl, nofun, ?_⟩
  unfold Gate.closed
  cases hg : g.follow with
  | none => rfl
  | some e => simpa using hfollow e hg

/-- The gate after a cancellation (R87). -/
def Gate.cancelled (g : Gate) : Gate :=
  { g with lead := g.lead.filter fun e => e.opened, follow := g.follow.filter fun e => e.opened }

theorem State.site_cancelGate (s : State) (b c : BinId) :
    (s.cancelGate b).site c = if c = b then ⟨(s.gate b).cancelled, s.bin b⟩ else s.site c :=
  State.site_setGate _ b c _

theorem Gate.Sound.cancelled {g : Gate} (h : g.Sound) : g.cancelled.Sound := by
  obtain ⟨-, hfollow, houtput⟩ := h
  have hnone : g.follow.filter (fun e => e.opened) = none := by
    cases hg : g.follow with
    | none => rfl
    | some e => simp [hfollow e hg]
  refine ⟨fun _ => hnone, ?_, ?_⟩
  · unfold Gate.cancelled
    dsimp only
    rw [hnone]
    exact nofun
  · unfold Gate.cancelled
    dsimp only
    rw [houtput]
    cases hl : g.lead with
    | none => rfl
    | some e => cases ho : e.opened <;> simp [ho]

theorem bit_le_of_imp {a b : Bool} (h : a = true → b = true) : bit a ≤ bit b := by
  cases a <;> cases b <;> simp_all [bit]

theorem Gate.entries_cancelled_le (g : Gate) : g.cancelled.entries ≤ g.entries := by
  have hle (o : Option GateEntry) : bit (o.filter fun e => e.opened).isSome ≤ bit o.isSome := by
    refine bit_le_of_imp fun h => ?_
    cases o <;> simp_all
  exact Nat.add_le_add (hle g.lead) (hle g.follow)

theorem Gate.entries_closed {g : Gate} (h : g.lead.isSome) : g.closed.entries + 1 = g.entries := by
  unfold Gate.closed Gate.entries
  rw [h]
  simp [bit, Nat.add_comm]

theorem Gate.Sound.written {g : Gate} (h : g.Sound) (n : StoreNo) (p o c : Pos) : (g.written n p o c).Sound := by
  obtain ⟨hlead, hfollow, houtput⟩ := h
  unfold Gate.written
  split
  · rename_i hg
    refine ⟨nofun, fun e he => hfollow e he, ?_⟩
    simp
  · rename_i e hg
    refine ⟨fun hn => ?_, ?_, ?_⟩
    · rw [hg] at hn; cases hn
    · rintro e' ⟨⟩; rfl
    · exact houtput

theorem Gate.entries_written {g : Gate} {p o : Pos} (h : g.takes p o = true) (n : StoreNo) (c : Pos) :
    (g.written n p o c).entries = g.entries + 1 := by
  unfold Gate.written Gate.takes Gate.entries at *
  split
  · rename_i hg
    simp [hg, bit, Nat.add_comm]
  · rename_i e hg
    simp only [hg, Bool.and_eq_true, Option.isNone_iff_eq_none] at h
    simp [hg, h.1, bit]

/-! ## Working the gates -/

theorem keepsSites_setQueue (s : State) (q : List TrackRec) : s.KeepsSites (s.setQueue q) := .refl s

theorem keepsSites_gateOpenEvent (s : State) (b : BinId) : s.KeepsSites (s.gateOpenEvent b) := by
  unfold State.gateOpenEvent
  split
  · rename_i hdue
    obtain ⟨e, he⟩ : ∃ e, (s.gate b).lead = some e := by
      simp only [State.openDue, Option.any_eq_true] at hdue
      obtain ⟨e, he, -⟩ := hdue
      exact ⟨e, he⟩
    have hcount : ({ s.gate b with lead := (s.gate b).lead.map fun e => { e with opened := true }, output := true } :
        Gate).entries = (s.gate b).entries := by
      simp [Gate.entries]
    have hlead : (s.site b).gate.lead.isSome := Option.isSome_of_mem he
    refine keepsSites_setGate ⟨⟨fun hg => hg.opened hlead, id, fun _ hf => ?_⟩, fun hr => ?_⟩
    · unfold Site.Fits Site.inbound at *
      dsimp only at *
      rw [hcount]
      exact hf
    · unfold Site.Released Site.inbound at *
      dsimp only at *
      rw [hcount]
      exact hr
  · exact .refl s

theorem length_handOver_le (s : State) (n : StoreNo) : (s.handOver n).length ≤ 1 := by
  unfold State.handOver
  cases ((s.record? n).bind TrackRec.sheet) <;> simp

/-- The close of a gate before FLOAT release: one entry fewer and at most one sheet more in flight. -/
theorem Site.held_closed {g : Gate} {r : BinRec} {sheets : List InFlight} (hlead : g.lead.isSome)
    (hlen : sheets.length ≤ 1) (hst : sheets ≠ [] → r.state.working ∨ r.state = .check) :
    Site.Held ⟨g, r⟩ ⟨g.closed, { r with inFlight := r.inFlight ++ sheets }⟩ := by
  refine ⟨fun hg => hg.closed, fun hs => ?_, fun _ hf => ?_⟩
  · by_cases hnone : sheets = []
    · simpa [hnone] using hs
    · have hother {x : BinState} (hx : r.state = x) (hwork : x.working = false) (hcheck : x ≠ .check) : False := by
        rcases hst hnone with h | h
        · rw [hx, hwork] at h; cases h
        · exact hcheck (hx.symm.trans h)
      exact hs.of_doubt (fun ho => hother ho rfl nofun) rfl rfl rfl rfl fun hl => (hother hl rfl nofun).elim
  · have := Gate.entries_closed hlead
    unfold Site.Fits Site.inbound at *
    dsimp only at *
    rw [List.length_append]
    omega

theorem keepsSites_closeGate {s : State} {b : BinId} {e : GateEntry} (hlead : (s.gate b).lead = some e) :
    s.KeepsSites (s.closeGate b e) := by
  have hsome : (s.gate b).lead.isSome := by rw [hlead]; rfl
  unfold State.closeGate
  dsimp only
  split
  · rename_i hstate
    refine keepsSites_floatRelease ?_ fun c hc => ?_
    · rw [State.site_setBin, if_pos rfl]
      change Site.Held _ ⟨((s.setGate b (s.gate b).closed)).gate b, _⟩
      rw [State.gate_setGate_self]
      exact Site.held_closed hsome (length_handOver_le _ _) fun _ => hstate
    · rw [State.site_setBin, if_neg hc]
      exact (State.site_setGate _ _ _ _).trans (if_neg hc)
  · have hlost : s.KeepsSites ((((s.setGate b (s.gate b).closed).setQueue
        (removeRecord e.store s.tracker.queue)).bump .lostAtGateClose).floatRelease b) := by
      refine keepsSites_floatRelease ?_ fun c hc => ?_
      · change Site.Held _ ((s.setGate b (s.gate b).closed).site b)
        rw [State.site_setGate, if_pos rfl]
        have := Site.held_closed (g := s.gate b) (r := s.bin b) (sheets := []) hsome (by simp) (fun h => absurd rfl h)
        rwa [List.append_nil] at this
      · exact (State.site_setGate _ _ _ _).trans (if_neg hc)
    split
    · exact hlost.trans (keepsSites_searchRound _)
    · exact hlost

theorem keepsSites_gateCloseEvent (s : State) (b : BinId) : s.KeepsSites (s.gateCloseEvent b) := by
  unfold State.gateCloseEvent
  split
  · rename_i e he
    exact .ite (keepsSites_closeGate he) (.refl s)
  · exact .refl s

theorem keepsSites_settlePosition (s : State) : s.KeepsSites s.settlePosition := by
  unfold State.settlePosition
  dsimp only
  refine .trans ?_ (.foldl (fun t n => (changes_endOfLineEvent (l := []) t n).keepsSites) _ _)
  refine .trans ?_ (.foldl keepsSites_gateCloseEvent _ _)
  refine .trans ?_ (.foldl keepsSites_gateOpenEvent _ _)
  refine .trans ?_ (.foldl (fun t n => (changes_expiryEvent (l := []) t n).keepsSites) _ _)
  exact (changes_longObjectEvent (l := []) s).keepsSites

/-! ## The conveyor emptied (R90) -/

theorem Gate.sound_empty : ({} : Gate).Sound := ⟨fun _ => rfl, nofun, rfl⟩

theorem State.site_clearConveyor (s : State) (b : BinId) :
    s.clearConveyor.site b = ⟨{}, (s.bin b).floatRelease (Site.inbound ⟨{}, s.bin b⟩)⟩ := by
  have hgate : s.clearConveyor.gate b = {} := s.gate_emptyGates b
  have hbin : s.clearConveyor.bin b =
      (s.bin b).floatRelease ((s.emptyGates.gate b).entries + (s.bin b).inFlight.length) := tabulateBins_getElem _ b
  rw [State.site, hgate, hbin, State.gate_emptyGates]
  rfl

theorem keepsSites_clearConveyor (s : State) : s.KeepsSites s.clearConveyor := by
  intro b
  rw [State.site_clearConveyor]
  refine Site.Held.floatRelease (y := ⟨{}, s.bin b⟩) ⟨fun _ => Gate.sound_empty, id, fun _ hf => ?_⟩
  have hempty : ({} : Gate).entries = 0 := rfl
  unfold Site.Fits Site.inbound at *
  dsimp only [State.site] at *
  omega

theorem keepsSites_roundIfInboundGone (s before : State) : s.KeepsSites (s.roundIfInboundGone before) :=
  .ite (keepsSites_searchRound s) (.refl s)

theorem keepsSites_restartLine (s : State) : s.KeepsSites s.restartLine := by
  unfold State.restartLine
  dsimp only
  refine .trans ?_ (keepsSites_roundIfInboundGone _ _)
  refine .trans ?_ (changes_exchangeIfDue (l := [.swap]) _ (by simp)).keepsSites
  refine .trans ?_ (changes_bumpBy (l := []) _ _ _).keepsSites
  exact keepsSites_clearConveyor s

theorem keepsSites_takeReversal (s : State) : s.KeepsSites s.takeReversal :=
  ((keepsSites_clearConveyor s).trans
    ((changes_bumpBy (l := []) _ _ _).trans (changes_raiseAll _ _ rfl)).keepsSites).trans
      (keepsSites_roundIfInboundGone _ s)

theorem keepsSites_reversePulse (s : State) : s.KeepsSites s.reversePulse := by
  unfold State.reversePulse State.reverseStep
  refine .ite ?_ (.refl s)
  exact .ite (.refl s) (.trans (t := s.setResidue (s.activeLayout.divide - 1)) (.refl s) (keepsSites_takeReversal _))

theorem keepsSites_forwardPulse (s : State) : s.KeepsSites s.forwardPulse :=
  (changes_forwardPulse (l := [.pos, .travel]) s (by simp) (by simp)).keepsSites

/-! ## Routing (R79) -/

/-- A bin that takes one more sheet (R77). -/
theorem Site.kept_taking {g g' : Gate} {r : BinRec} (hg : g.Sound → g'.Sound) (hin : g'.entries = g.entries + 1)
    (hst : r.state = .service) (hle : Site.inbound ⟨g, r⟩ ≤ 2)
    (hroom : r.stack.length + Site.inbound ⟨g, r⟩ < r.capacity) (c : GradeClass) :
    Site.Kept ⟨g, r⟩ ⟨g', r.taking c⟩ := by
  have hfields : (r.taking c).inFlight = r.inFlight ∧ (r.taking c).stack = r.stack ∧ (r.taking c).capacity = r.capacity ∧
      (r.taking c).questioned = r.questioned ∧ (r.taking c).state = r.state ∧ (r.taking c).resume = r.resume ∧
      (r.taking c).stray = r.stray := by
    unfold BinRec.taking
    split <;> exact ⟨rfl, rfl, rfl, rfl, rfl, rfl, rfl⟩
  obtain ⟨hfl, hstack, hcap, hq, hstate, hresume, hstray⟩ := hfields
  refine ⟨⟨hg, fun hs => ?_, fun hs hf => ?_⟩, fun _ _ _ hzero => ?_⟩
  · exact hs.of_doubt (by simp [hst]) hstate hresume hq hstray fun _ hi => hfl.trans hi
  · have hnone := (hs.settled (by simp [hst])).2.1
    unfold Site.Fits Site.inbound at *
    dsimp only at *
    rw [hfl, hstack, hcap, hq, hnone, hin] at *
    simp [bit] at *
    omega
  · unfold Site.inbound at hzero
    dsimp only at hzero
    omega

theorem keepsSites_routeSheet (s : State) (r : TrackRec) (c : GradeClass) : s.KeepsSites (s.routeSheet r c) := by
  unfold State.routeSheet
  split
  · exact .refl s
  · split
    · exact .refl s
    · rename_i b hb
      obtain ⟨x, hx, -⟩ := State.chooseBin_eq_some hb
      have hopen : s.binOpenTo b r.lead = true := by
        unfold State.routeCandidate at hx
        by_contra hn
        rw [if_neg hn] at hx
        cases hx
      obtain ⟨hst, -, -, hle, hroom, htakes⟩ := (s.binOpenTo_iff b r.lead).1 hopen
      intro d
      rw [State.site_setBin]
      split
      · rename_i hd
        rw [hd, State.gate_setGate_self]
        exact Site.kept_taking (fun hg => hg.written _ _ _ _) (Gate.entries_written htakes _ _) hst hle hroom c
      · rename_i hd
        rw [State.site_setGate, if_neg hd]
        exact .refl _

theorem keepsSites_completeRecord (s : State) (g : Grading) (r : TrackRec) (x : GradeResult) :
    s.KeepsSites (s.completeRecord g r x) := by
  unfold State.completeRecord
  refine .trans (keepsSites_setQueue s (changeRecord g.store (TrackRec.withResult x) s.tracker.queue)) ?_
  unfold State.settleDisposition
  split
  · exact keepsSites_routeSheet _ _ _
  · exact .refl _
  · exact .refl _

theorem keepsSites_completionEvent (s : State) : s.KeepsSites s.completionEvent := by
  have hrelease (t : State) : t.KeepsSites t.releaseEngine :=
    (changes_releaseEngine (l := [.engine, .swap]) t (by simp) (by simp)).keepsSites
  have hcount (x : GradeResult) : s.KeepsSites (s.countGrade x) := (changes_countGrade (l := []) s x).keepsSites
  unfold State.completionEvent
  split
  · exact .refl s
  · dsimp only
    split
    · exact ((hcount _).trans (keepsSites_send _ _ _)).trans (hrelease _)
    · exact (((hcount _).trans (keepsSites_completeRecord _ _ _ _)).trans (keepsSites_send _ _ _)).trans (hrelease _)

/-! ## Landings and doubts (R98 to R103) -/

/-- A change of the record of `b`, then the cancellation of its entries. -/
theorem State.site_setBin_cancelGate (s : State) (b c : BinId) (r : BinRec) :
    ((s.setBin b r).cancelGate b).site c = if c = b then ⟨(s.gate b).cancelled, r⟩ else s.site c := by
  rw [State.site_cancelGate, State.bin_setBin_self, State.site_setBin]
  split
  · rfl
  · rfl

theorem Site.inbound_cancelled_le (g : Gate) (r : BinRec) : Site.inbound ⟨g.cancelled, r⟩ ≤ Site.inbound ⟨g, r⟩ :=
  Nat.add_le_add_right g.entries_cancelled_le _

/-- A record that holds no more than before, with the gate's entries cancelled. -/
theorem Site.held_cancelled {g : Gate} {r r' : BinRec} (hs : r.Sound → r'.Sound) (hcap : r'.capacity = r.capacity)
    (hin : r'.inFlight.length ≤ r.inFlight.length)
    (hsum : r.Sound → r'.stack.length + r'.inFlight.length + bit r'.questioned.isSome ≤
      r.stack.length + r.inFlight.length + bit r.questioned.isSome) :
    Site.Held ⟨g, r⟩ ⟨g.cancelled, r'⟩ := by
  refine ⟨fun hg => hg.cancelled, hs, fun hsound hf => ?_⟩
  have := g.entries_cancelled_le
  have := hsum hsound
  unfold Site.Fits Site.inbound at *
  dsimp only at *
  omega

theorem keepsSites_land {s : State} {b : BinId} {x : InFlight} {rest : List InFlight}
    (h : (s.bin b).inFlight = x :: rest) (hst : (s.bin b).state ≠ .off) : s.KeepsSites (s.land b x rest) := by
  refine keepsSites_setBin ⟨⟨id, fun hs => ?_, fun _ hf => ?_⟩, fun _ _ hempty => ?_⟩
  · exact hs.of_doubt hst rfl rfl rfl rfl fun _ hi => by rw [State.site, h] at hi; cases hi
  · unfold Site.Fits Site.inbound at *
    dsimp only [State.site] at *
    rw [h] at hf
    simp only [List.length_cons, List.length_append, List.length_nil] at *
    omega
  · simp at hempty

theorem keepsSites_secondFailure (s : State) (b : BinId) : s.KeepsSites (s.secondFailure b) := by
  refine keepsSites_floatRelease ?_ fun c hc => ?_
  · change Site.Held _ (((s.setBin b _).cancelGate b).site b)
    rw [State.site_setBin_cancelGate, if_pos rfl]
    refine Site.held_cancelled (fun _ => ?_) rfl (Nat.zero_le _) fun _ => ?_
    · exact BinRec.sound_settled nofun nofun rfl rfl rfl fun _ => rfl
    · simp [bit]; omega
  · change ((s.setBin b _).cancelGate b).site c = _
    rw [State.site_setBin_cancelGate, if_neg hc]

theorem keepsSites_revokeReservations (s : State) (b : BinId) : s.KeepsSites (s.revokeReservations b) := by
  unfold State.revokeReservations
  split
  · exact keepsSites_revokeBin s b _
  · exact .refl s

theorem BinState.resume_isSome {x : BinState} (h : x.working = true) : x.resume.isSome := by
  cases x
  case service => rfl
  case drain => rfl
  all_goals cases h

theorem BinState.working_ne_check {x : BinState} (h : x.working = true) : x ≠ .check := by rintro rfl; cases h

theorem keepsSites_strayCheck {s : State} {b : BinId} (h : (s.bin b).state.working = true) :
    s.KeepsSites (s.strayCheck b) := by
  refine keepsSites_floatRelease ?_ fun c hc => ?_
  · rw [State.site_setBin_cancelGate, if_pos rfl]
    refine Site.held_cancelled (fun hs => ?_) rfl (le_refl _) fun _ => le_refl _
    obtain ⟨-, hq, -⟩ := hs.settled (BinState.working_ne_check h)
    refine BinRec.sound_doubted rfl (BinState.resume_isSome h) ?_
    dsimp only
    rw [hq]
    rfl
  · exact (State.site_setBin_cancelGate _ _ _ _).trans (if_neg hc)

/-- Revocations leave a bin's state. -/
theorem State.bin_state_revokeReservations (s : State) (b c : BinId) :
    ((s.revokeReservations b).bin c).state = (s.bin c).state := by
  have hclear (t : State) (f : Feeder) : ((t.setAside f).bin c).state = (t.bin c).state := by
    unfold State.setAside
    split
    · rw [State.bin_clearClaim, State.bin_congr (State.setFeeder_bins t f _)]
    · rfl
  have hone (t : State) (f : Feeder) (n : StoreNo) : ((t.revokeOne b f n).bin c).state = (t.bin c).state := by
    unfold State.revokeOne
    rw [State.bin_congr (State.send_bins _ _ _), State.bin_congr (State.setFeeder_bins _ _ _), State.bin_setBin]
    split
    · rename_i h; rw [h]; rfl
    · rfl
  have hall (f : Feeder) (ns : List StoreNo) (t : State) :
      ((ns.foldl (fun t n => t.revokeOne b f n) t).bin c).state = (t.bin c).state := by
    induction ns generalizing t with
    | nil => rfl
    | cons n ns ih => exact (ih _).trans (hone t f n)
  unfold State.revokeReservations
  split
  · unfold State.revokeBin
    dsimp only
    rw [hclear, State.bin_congr (State.raise_bins _ _ _), hall]
  · rfl

theorem keepsSites_strayLanding {s : State} {b : BinId} (h : (s.bin b).state.working = true) :
    s.KeepsSites (s.strayLanding b) := by
  have hcheck : s.KeepsSites ((s.revokeReservations b).strayCheck b) := by
    refine (keepsSites_revokeReservations s b).trans (keepsSites_strayCheck ?_)
    rwa [State.bin_state_revokeReservations]
  unfold State.strayLanding
  dsimp only
  split
  · exact hcheck.trans (keepsSites_searchRoundBy _ _)
  · exact hcheck.trans (keepsSites_searchRound _)

theorem keepsSites_countStray (s : State) : s.KeepsSites s.countStray := .refl s

theorem keepsSites_landPulse (s : State) (b : BinId) : s.KeepsSites (s.landPulse b) := by
  unfold State.landPulse
  split
  · exact .refl s
  · exact .refl s
  · rename_i hfl hoff _
    exact (keepsSites_land hfl hoff).trans (keepsSites_searchRound _)
  · exact ((keepsSites_countStray s).trans (keepsSites_secondFailure _ b)).trans (keepsSites_searchRound _)
  · rename_i hst _
    exact (keepsSites_countStray s).trans (keepsSites_strayLanding (s := s.countStray) (by
      change (s.bin b).state.working = true
      rw [hst]; rfl))
  · rename_i hst _
    exact (keepsSites_countStray s).trans (keepsSites_strayLanding (s := s.countStray) (by
      change (s.bin b).state.working = true
      rw [hst]; rfl))

theorem keepsSites_missDrop {s : State} {b : BinId} {x : InFlight} (hx : x ∈ (s.bin b).inFlight)
    (h : (s.bin b).state.working = true) : s.KeepsSites (s.missDrop b x) := by
  intro c
  unfold State.missDrop
  dsimp only
  rw [State.site_setBin_cancelGate]
  split
  · rename_i hc
    rw [hc]
    have hlt : ((s.bin b).inFlight.filter fun y => y.sheet.store ≠ x.sheet.store).length < (s.bin b).inFlight.length := by
      refine List.length_filter_lt_length_iff_exists.2 ⟨x, hx, by simp⟩
    refine ⟨Site.held_cancelled (fun hs => ?_) rfl hlt.le fun hs => ?_, fun _ _ _ _ hnone => by cases hnone⟩
    · obtain ⟨-, -, hstray⟩ := hs.settled (BinState.working_ne_check h)
      exact BinRec.sound_doubted rfl (BinState.resume_isSome h) hstray
    · simp only [Option.isSome_some, bit, Bool.toNat_true]
      omega
  · exact .refl _

theorem keepsSites_windowExpiry (s : State) (b : BinId) (n : StoreNo) : s.KeepsSites (s.windowExpiry b n) := by
  have hmiss (x : InFlight) (hx : x ∈ (s.bin b).inFlight) (hst : (s.bin b).state.working = true) :
      s.KeepsSites (((s.reachTime x.expiry).missDrop b x).countMissed).searchRound := by
    have hdrop : s.KeepsSites ((s.reachTime x.expiry).missDrop b x) :=
      .trans (t := s.reachTime x.expiry) (.refl s) (keepsSites_missDrop (s := s.reachTime x.expiry) hx hst)
    exact (hdrop.trans (u := State.countMissed _) (.refl _)).trans (keepsSites_searchRound _)
  unfold State.windowExpiry
  split
  · exact .refl s
  · rename_i x hfind
    have hx := List.mem_of_find?_eq_some hfind
    split
    · rename_i hst
      exact hmiss x hx (by rw [hst]; rfl)
    · rename_i hst
      exact hmiss x hx (by rw [hst]; rfl)
    · refine .trans ?_ (keepsSites_searchRound _)
      exact .trans (t := (s.reachTime x.expiry).countMissed) (.refl s) (keepsSites_secondFailure _ b)
    · exact .refl s
    · exact .refl s

end Sys2Proof.Machine
end

section
/-! What each request keeps of the sites, and the invariants of gates and bins (R72, R85, R92, R93, R95, R115). -/

namespace Sys2Proof.Machine

set_option Elab.async false

open Sys2Proof

/-! ## BIN RESOLVE and the bin requests (R106 to R114) -/

theorem ResumeState.state_working (x : ResumeState) : x.state.working = true := by cases x <;> rfl

/-- A record in CHECK whose doubt has been taken away, returned to its resume state. -/
theorem BinRec.sound_resumed {r : BinRec} (hresume : r.resume.isSome) (hq : r.questioned = none)
    (hstray : r.stray = false) : r.resumed.Sound := by
  obtain ⟨x, hx⟩ := Option.isSome_iff_exists.1 hresume
  have hwork := x.state_working
  rw [BinRec.resumed, hx]
  refine sound_settled (BinState.working_ne_check hwork) (BinState.working_ne_off hwork) rfl hq hstray ?_
  dsimp only
  intro hl
  rw [hl] at hwork
  cases hwork

theorem BinRec.resumed_fields (r : BinRec) :
    r.resumed.mode = r.mode ∧ r.resumed.current = r.current ∧ r.resumed.capacity = r.capacity ∧
      r.resumed.stack = r.stack ∧ r.resumed.inFlight = r.inFlight ∧ r.resumed.questioned = r.questioned := by
  unfold BinRec.resumed
  split <;> exact ⟨rfl, rfl, rfl, rfl, rfl, rfl⟩

theorem keepsSites_resolveLanded {s : State} {b : BinId} (hst : (s.bin b).state = .check) :
    s.KeepsSites (s.resolveLanded b) := by
  unfold State.resolveLanded
  dsimp only
  split
  · exact .refl s
  · rename_i q hq
    refine keepsSites_setBin ?_
    have hfields := BinRec.resumed_fields
      { s.bin b with
        stack := (s.bin b).stack.take q.position ++ s.stacked q.sheet :: (s.bin b).stack.drop q.position
        questioned := none }
    obtain ⟨-, -, hcap, hstack, hfl, hnone⟩ := hfields
    refine ⟨⟨id, fun hs => ?_, fun _ hf => ?_⟩, fun _ _ hempty => ?_⟩
    · obtain ⟨hresume, hstray⟩ := hs.doubted hst
      refine BinRec.sound_resumed hresume rfl ?_
      dsimp only [State.site] at hstray ⊢
      rw [hstray, hq]
      rfl
    · have hlen := congrArg List.length ((s.bin b).stack.take_append_drop q.position)
      unfold Site.Fits Site.inbound at *
      dsimp only [State.site] at *
      rw [hcap, hstack, hfl, hnone]
      rw [hq] at hf
      simp only [List.length_append, List.length_cons, bit, Option.isSome_some, Option.isSome_none, Bool.toNat_true,
        Bool.toNat_false] at *
      omega
    · dsimp only at hempty
      rw [hstack] at hempty
      simp at hempty

theorem keepsSites_resolveLost {s : State} {b : BinId} (hst : (s.bin b).state = .check)
    (hq : (s.bin b).questioned.isSome) : s.KeepsSites (s.resolveLost b) := by
  refine keepsSites_floatRelease ?_ fun c hc => ?_
  · change Site.Held _ ((s.setBin b _).site b)
    rw [State.site_setBin, if_pos rfl]
    obtain ⟨-, -, hcap, hstack, hfl, hnone⟩ := BinRec.resumed_fields { s.bin b with questioned := none }
    refine ⟨id, fun hs => ?_, fun _ hf => ?_⟩
    · obtain ⟨hresume, hstray⟩ := hs.doubted hst
      exact BinRec.sound_resumed hresume rfl (hstray.trans (by rw [State.site, hq]; rfl))
    · unfold Site.Fits Site.inbound at *
      dsimp only [State.site] at *
      rw [hcap, hstack, hfl, hnone]
      simp only [bit, Option.isSome_none, Bool.toNat_false] at *
      omega
  · change (s.setBin b _).site c = _
    rw [State.site_setBin, if_neg hc]

theorem keepsSites_resolveClear {s : State} {b : BinId} (hst : (s.bin b).state = .check)
    (hstray : (s.bin b).stray = true) : s.KeepsSites (s.resolveClear b) := by
  obtain ⟨hmode, hcur, hcap, hstack, hfl, hquest⟩ := BinRec.resumed_fields { s.bin b with stray := false }
  refine keepsSites_setBin (Site.kept_of_counts (fun hs => ?_) hcap (by rw [hfl]) (by rw [hstack]) (by rw [hquest])
    hmode hcur)
  obtain ⟨hresume, hdoubt⟩ := hs.doubted hst
  rw [hstray] at hdoubt
  exact BinRec.sound_resumed hresume (by simpa using hdoubt.symm) rfl

theorem keepsSites_resolve {s : State} {b : BinId} {x : ResolveForm} (hst : (s.bin b).state = .check)
    (hx : (s.bin b).resolvable x = true) : s.KeepsSites (s.resolve b x) := by
  cases x
  case landed => exact (keepsSites_resolveLanded hst).trans (keepsSites_searchRound _)
  case lost => exact (keepsSites_resolveLost hst hx).trans (keepsSites_searchRound _)
  case clear => exact (keepsSites_resolveClear hst hx).trans (keepsSites_searchRound _)

theorem keepsSites_acceptBin {s t : State} (h : s.KeepsSites t) (b : BinId) (lead : List Byte) :
    s.KeepsSites (acceptBin b lead t s).2 := h.trans (changes_takeConditions (l := []) t s).keepsSites

theorem keepsSites_binResolveBody (p : Port) (l : List Byte) (s : State) : s.KeepsSites (binResolveBody p l s).2 := by
  unfold binResolveBody
  split
  · exact .refl s
  · split
    · split
      · exact .refl s
      · rename_i hst
        split
        · exact .refl s
        · rename_i hx
          exact keepsSites_acceptBin (keepsSites_resolve (by simpa using hst) (by simpa using hx)) _ _
    · exact .refl s

/-- The bin requests, for a bin that is not OFF. -/
theorem keepsSites_binRequest {body : BinId → State → Reply × State} {s : State}
    (h : ∀ b, (s.bin b).state ≠ .off → s.KeepsSites (body b s).2) (n : Nat) (l : List Byte) :
    s.KeepsSites (binRequest n body l s).2 := by
  unfold binRequest
  split
  · exact .refl s
  · split
    · exact .refl s
    · split
      · exact .refl s
      · rename_i b _ hoff
        exact h b hoff

/-- A change between SERVICE, DRAIN and LOCKOUT of a bin without doubt. -/
theorem keepsSites_enterState {s : State} {b : BinId} {x : BinState} (hx : x.working = true)
    (hcheck : (s.bin b).state ≠ .check) : s.KeepsSites (s.enterState b x) := by
  have hset : s.KeepsSites (s.setBin b { s.bin b with state := x }) := by
    refine keepsSites_setBin (Site.kept_of_counts (fun hs => ?_) rfl rfl rfl rfl rfl rfl)
    obtain ⟨hresume, hq, hstray⟩ := hs.settled hcheck
    refine BinRec.sound_settled (BinState.working_ne_check hx) (BinState.working_ne_off hx) hresume hq hstray fun hl => ?_
    dsimp only at hl
    rw [hl] at hx
    cases hx
  exact hset.trans (keepsSites_searchRound _)

theorem keepsSites_drainBin (b : BinId) (s : State) : s.KeepsSites (drainBin b s).2 := by
  unfold drainBin
  split
  · rename_i hst
    exact keepsSites_acceptBin (keepsSites_enterState rfl (by simp [hst])) _ _
  · exact keepsSites_acceptBin (.refl s) _ _
  · exact .refl s
  · exact .refl s
  · exact .refl s

theorem keepsSites_uncertain (s : State) (b : BinId) (h : (s.bin b).state ≠ .off) (u : Bool) :
    s.KeepsSites (s.setBin b { s.bin b with uncertain := u }) :=
  keepsSites_setBin (Site.kept_of_counts (fun hs => hs.of_doubt h rfl rfl rfl rfl fun _ hi => hi) rfl rfl rfl rfl rfl rfl)

theorem keepsSites_serviceBin (b : BinId) (s : State) : s.KeepsSites (serviceBin b s).2 := by
  unfold serviceBin
  split
  · rename_i hst
    exact keepsSites_acceptBin (keepsSites_enterState rfl (by simp [hst])) _ _
  · exact keepsSites_acceptBin (.refl s) _ _
  · rename_i hst
    split
    · exact .refl s
    · refine keepsSites_acceptBin ?_ _ _
      refine (keepsSites_uncertain s b (by simp [hst]) false).trans (keepsSites_enterState rfl ?_)
      simp [hst]
  · exact .refl s
  · exact .refl s

theorem keepsSites_lockBin {s : State} {b : BinId} (hin : s.inbound b = 0) : s.KeepsSites (s.lockBin b) := by
  have hfl : (s.bin b).inFlight = [] := by
    unfold State.inbound at hin
    exact List.length_eq_zero_iff.1 (by omega)
  refine (keepsSites_floatRelease (b := b) ?_ fun c hc => ?_).trans (keepsSites_searchRound _)
  · change Site.Held _ (((s.setBin b _).cancelGate b).site b)
    rw [State.site_setBin_cancelGate, if_pos rfl]
    refine Site.held_cancelled (fun hs => ?_) rfl (le_refl _) fun _ => ?_
    · by_cases hst : (s.bin b).state = .check
      · exact BinRec.sound_settled nofun nofun rfl (by simp [hst]) (by simp [hst]) fun _ => hfl
      · obtain ⟨-, hq, hstray⟩ := hs.settled hst
        exact BinRec.sound_settled nofun nofun rfl (by simp [hst, hq]) (by simp [hst, hstray]) fun _ => hfl
    · dsimp only
      split
      · simp [bit]
      · exact le_refl _
  · change ((s.setBin b _).cancelGate b).site c = _
    rw [State.site_setBin_cancelGate, if_neg hc]

theorem keepsSites_lockBinBody (b : BinId) (s : State) : s.KeepsSites (lockBinBody b s).2 := by
  unfold lockBinBody
  split
  · exact .refl s
  · rename_i h
    simp only [not_or, Nat.not_lt, Nat.le_zero] at h
    exact keepsSites_acceptBin (keepsSites_lockBin h.2.1) _ _

theorem keepsSites_unloadTop {s : State} {b : BinId} (hst : (s.bin b).state ≠ .off) (n : Nat) :
    s.KeepsSites (s.unloadTop b n) := by
  refine keepsSites_floatRelease ?_ fun c hc => ?_
  · change Site.Held _ ((s.setBin b _).site b)
    rw [State.site_setBin, if_pos rfl]
    refine ⟨id, fun hs => hs.of_doubt hst rfl rfl rfl rfl fun _ hi => hi, fun _ hf => ?_⟩
    have := List.length_take_le ((s.bin b).stack.length - n) (s.bin b).stack
    have := List.length_take_le' ((s.bin b).stack.length - n) (s.bin b).stack
    unfold Site.Fits Site.inbound at *
    dsimp only [State.site] at *
    omega
  · change (s.setBin b _).site c = _
    rw [State.site_setBin, if_neg hc]

theorem keepsSites_unloadBin {b : BinId} {s : State} (hst : (s.bin b).state ≠ .off) : s.KeepsSites (unloadBin b s).2 := by
  unfold unloadBin
  split
  · exact .refl s
  · exact keepsSites_acceptBin (keepsSites_unloadTop hst _) _ _

theorem keepsSites_removeTop (n : Nat) {b : BinId} {s : State} (hst : (s.bin b).state ≠ .off) :
    s.KeepsSites (removeTop n b s).2 := by
  unfold removeTop
  split
  · exact .refl s
  · split
    · exact .refl s
    · exact keepsSites_acceptBin (keepsSites_unloadTop hst _) _ _

/-! ## Lots (R117, R118) -/

theorem keepsSites_markLot (s : State) (lot : LotNo) (held : Bool) : s.KeepsSites (s.markLot lot held) :=
  keepsSites_mapBins s fun _ _ => Site.kept_marked (by simp) fun _ h => h

theorem keepsSites_lotHoldBody (p : Port) (l : List Byte) (s : State) : s.KeepsSites (lotHoldBody p l s).2 := by
  unfold lotHoldBody
  split
  · exact .refl s
  · split
    · exact .refl s
    · split
      · exact .refl s
      · exact .trans (t := { s with lotHolds := s.lotHolds ++ [lotAt l] }) (.refl s) (keepsSites_markLot _ _ _)

theorem keepsSites_lotReleaseBody (p : Port) (l : List Byte) (s : State) : s.KeepsSites (lotReleaseBody p l s).2 := by
  unfold lotReleaseBody
  split
  · exact .refl s
  · have hmarked : s.KeepsSites ({ s with lotHolds := s.lotHolds.filter fun x => x ≠ lotAt l }.markLot (lotAt l) false) :=
      .trans (t := { s with lotHolds := s.lotHolds.filter fun x => x ≠ lotAt l }) (.refl s) (keepsSites_markLot _ _ _)
    dsimp only
    split
    · exact hmarked.trans (keepsSites_searchRound _)
    · exact hmarked

/-! ## Calls and picks (R142 to R167) -/

theorem keepsSites_plyCallBody (f : Feeder) (l : List Byte) (s : State) : s.KeepsSites (plyCallBody f l s).2 := by
  refine withoutPayload_keeps (P := s.KeepsSites) (.refl s) ?_ l
  dsimp only
  split
  · exact .refl s
  · split
    · exact .refl s
    · exact (keepsSites_setFeeder s f _).trans (keepsSites_searchRoundBy _ f)

theorem keepsSites_patchCallBody (f : Feeder) (l : List Byte) (s : State) : s.KeepsSites (patchCallBody f l s).2 := by
  unfold patchCallBody
  split
  · exact .refl s
  · split
    · exact .refl s
    · split
      · exact .refl s
      · exact ((keepsSites_setAside s f).trans (keepsSites_setFeeder _ f _)).trans (keepsSites_searchRoundBy _ f)

/-- A pick: the top record off its stack, other parts changed, then FLOAT release. -/
theorem keepsSites_popTop_floatRelease {s t : State} {b : BinId} (h : (s.popTop b).KeepsSites t) :
    s.KeepsSites (t.floatRelease b) := by
  have hpop : (s.site b).Held ((s.popTop b).site b) := by
    unfold State.popTop
    rw [State.site_setBin, if_pos rfl]
    refine ⟨id, fun hs => ?_, fun _ hf => ?_⟩
    · by_cases hoff : (s.bin b).state = .off
      · have hr := hs.off hoff
        dsimp only [State.site] at hr ⊢
        rw [hr]
        exact BinRec.sound_off _ _
      · exact hs.of_doubt hoff rfl rfl rfl rfl fun _ hi => hi
    · unfold Site.Fits Site.inbound at *
      dsimp only [State.site] at *
      rw [List.length_dropLast]
      omega
  intro c
  by_cases hc : c = b
  · rw [hc, State.floatRelease, State.site_setBin, if_pos rfl]
    exact (hpop.trans (h b).toHeld).floatRelease
  · rw [State.floatRelease, State.site_setBin, if_neg hc]
    have := h c
    rwa [State.popTop, State.site_setBin, if_neg hc] at this

theorem keepsSites_bump (s : State) (c : Counter) : s.KeepsSites (s.bump c) := .refl s

theorem keepsSites_pickDone (s : State) (f : Feeder) (b : BinId) (x : Sheet) : s.KeepsSites (s.pickDone f b x) := by
  refine (keepsSites_popTop_floatRelease ?_).trans (keepsSites_searchRound _)
  exact (keepsSites_setFeeder _ f _).trans (keepsSites_bump _ _)

theorem keepsSites_pickFailed (s : State) (f : Feeder) (b : BinId) (x : Sheet) : s.KeepsSites (s.pickFailed f b x) := by
  refine (keepsSites_popTop_floatRelease ?_).trans (keepsSites_searchRoundBy _ f)
  exact ((keepsSites_setFeeder _ f _).trans (keepsSites_bump _ _)).trans (keepsSites_setAside _ f)

/-- The answers of the pick checks (R158): a refusal that keeps the state, or what the acceptance gives. -/
theorem pickBody_keeps {P : State → Prop} {s : State} (hs : P s) {accept : BinId → Sheet → State}
    (h : ∀ b x, P (accept b x)) (l : List Byte) (f : Feeder) : P (pickBody l f s accept).2 := by
  unfold pickBody
  split
  · exact hs
  · dsimp only
    split
    · exact hs
    · split
      · exact hs
      · split
        · exact hs
        · exact h _ _

theorem keepsSites_releaseMarks (s : State) (gs : List Grant) : s.KeepsSites (s.releaseMarks gs) :=
  .foldl (fun (t : State) (g : Grant) => keepsSites_mark t g.bin g.store none) gs s

theorem keepsSites_stopFeeder (s : State) (f : Feeder) : s.KeepsSites (s.stopFeeder f) := by
  unfold State.stopFeeder
  dsimp only
  refine .trans ?_ (keepsSites_searchRound _)
  refine .trans (t := (((s.clearClaim f).releaseMarks (s.feeder f).allGrants).setFeeder f _).send (.feeder f) _) ?_
    (.ite (.refl _) (keepsSites_send _ _ _))
  refine .trans ?_ (keepsSites_send _ _ _)
  exact ((keepsSites_clearClaim s f).trans (keepsSites_releaseMarks _ _)).trans (keepsSites_setFeeder _ f _)

theorem keepsSites_countShortage (s : State) (f : Feeder) : s.KeepsSites (s.countShortage f) :=
  (changes_countShortage (l := []) s f).keepsSites

theorem keepsSites_callTimeout (s : State) (f : Feeder) (e : PlyEntry) : s.KeepsSites (s.callTimeout f e) := by
  have hended {r : FeederRec} {o : OutcomeRec} :
      s.KeepsSites ((((s.clearClaim f).setFeeder f r).send (.feeder f) o).countShortage f) :=
    (((keepsSites_clearClaim s f).trans (keepsSites_setFeeder _ f _)).trans (keepsSites_send _ _ _)).trans
      (keepsSites_countShortage _ f)
  exact .ite (hended.trans (keepsSites_searchRound _)) hended

theorem keepsSites_patchTimeout (s : State) (f : Feeder) : s.KeepsSites (s.patchTimeout f) :=
  ((((keepsSites_clearClaim s f).trans (keepsSites_setFeeder _ f _)).trans (keepsSites_send _ _ _)).trans
    (keepsSites_countShortage _ f)).trans (keepsSites_searchRoundBy _ f)

theorem keepsSites_waitExpiry (s : State) (f : Feeder) : s.KeepsSites (s.waitExpiry f) := by
  unfold State.waitExpiry
  split
  · rename_i w e _ _
    exact .trans (t := { s with now := max s.now w.expiry }) (.refl s)
      (.ite (keepsSites_patchTimeout _ f) (keepsSites_callTimeout _ f e))
  · exact .refl s

/-! ## ENTER RUN (R122, R177) -/

theorem State.layoutFault_none {s : State} (h : s.layoutFault = none) (b : BinId) : s.binFault b = none := by
  unfold State.layoutFault at h
  split at h
  · cases h
  · split at h
    · cases h
    · exact List.findSome?_eq_none_iff.1 h b (mem_binsInOrder b)

/-- A bin that is not fitted holds nothing once the layout has passed validation (R176, check 5). -/
theorem State.empty_of_unfitted {s : State} (h : s.layoutFault = none) {b : BinId}
    (hfit : s.pendingLayout.bins[b].fitted = false) (hoff : (s.bin b).state ≠ .off) :
    (s.bin b).stack = [] ∧ s.inbound b = 0 ∧ (s.bin b).questioned = none := by
  have hb := State.layoutFault_none h b
  unfold State.binFault at hb
  dsimp only at hb
  rw [hfit] at hb
  have hholds : s.holdsSheets b = false := by
    by_contra hn
    simp only [Bool.not_eq_false] at hn
    simp [hn] at hb
  simpa [State.holdsSheets, hoff, and_assoc] using hholds

theorem BinRec.adjusted_fields (r : BinRec) (x : BinLayout) :
    (r.adjusted x).capacity = x.capacity ∧ (r.adjusted x).stack = r.stack ∧ (r.adjusted x).inFlight = r.inFlight ∧
      (r.adjusted x).questioned = r.questioned := by
  unfold BinRec.adjusted
  split
  · split <;> exact ⟨rfl, rfl, rfl, rfl⟩
  · exact ⟨rfl, rfl, rfl, rfl⟩

theorem BinRec.Sound.adjusted {r : BinRec} (hs : r.Sound) {x : BinLayout}
    (hempty : x.fitted = false → r.state ≠ .off → r.stack = [] ∧ r.inFlight = [] ∧ r.questioned = none) :
    (r.adjusted x).Sound := by
  unfold BinRec.adjusted
  split
  · split
    · rename_i hoff
      rw [hs.off hoff]
      exact sound_settled nofun nofun rfl rfl rfl fun _ => rfl
    · rename_i hoff
      exact hs.of_doubt hoff rfl rfl rfl rfl fun _ hi => hi
  · rename_i hfit
    have hnone : r.stack = [] ∧ r.inFlight = [] ∧ r.questioned = none := by
      by_cases hoff : r.state = .off
      · rw [hs.off hoff]; exact ⟨rfl, rfl, rfl⟩
      · exact hempty (by simpa using hfit) hoff
    obtain ⟨hstack, hfl, hq⟩ := hnone
    rw [hstack, hfl, hq]
    exact sound_off _ _

/-- A bin adjusted to its layout has no class when it is FLOAT and holds nothing (R122). -/
theorem Site.released_adjusted (g : Gate) (r : BinRec) (x : BinLayout) : Site.Released ⟨g, r.adjusted x⟩ := by
  obtain ⟨-, hstack, hfl, hq⟩ := r.adjusted_fields x
  intro hmode hempty hin hnone
  unfold Site.inbound at hin
  dsimp only at *
  rw [hstack] at hempty
  rw [hfl] at hin
  rw [hq] at hnone
  have hholds : r.holdsRecord = false := by
    have : r.inFlight = [] := List.length_eq_zero_iff.1 (by omega)
    simp [BinRec.holdsRecord, hempty, this, hnone]
  unfold BinRec.adjusted at hmode ⊢
  cases hf : x.fitted
  · simp
  · cases hc : x.fixedClass
    · cases hst : r.state <;> simp [hholds]
    · by_cases hst : r.state = .off <;> simp [hf, hc, hst, BinLayout.mode] at hmode

theorem State.site_adjusted (s : State) (b : BinId) :
    s.adjusted.site b = ⟨s.gate b, (s.bin b).adjusted s.pendingLayout.bins[b]⟩ := by
  have hbin : s.adjusted.bin b = (s.bin b).adjusted s.pendingLayout.bins[b] := tabulateBins_getElem _ b
  rw [State.site, hbin]
  rfl

theorem site_adjusted_kept {s : State} (hy : s.pendingLayout.InRange) (h : s.layoutFault = none) (b : BinId) :
    (s.site b).Kept (s.adjusted.site b) := by
  rw [State.site_adjusted]
  obtain ⟨hcap, hstack, hfl, hq⟩ := (s.bin b).adjusted_fields s.pendingLayout.bins[b]
  refine ⟨⟨id, fun hs => hs.adjusted fun hfit hoff => ?_, fun _ hf => ?_⟩, fun _ => Site.released_adjusted _ _ _⟩
  · obtain ⟨hempty, hin, hnone⟩ := State.empty_of_unfitted h hfit hoff
    refine ⟨hempty, List.length_eq_zero_iff.1 ?_, hnone⟩
    unfold State.inbound at hin
    dsimp only [State.site]
    omega
  · have hrange := (hy.capacity b).2
    unfold Site.Fits Site.inbound at *
    dsimp only at *
    rw [hcap, hstack, hfl, hq]
    exact ⟨hrange, hf.2⟩

/-! ## The commands -/

/-- Every command but ENTER RUN and the device reset keeps every site. -/
theorem keepsSites_of_exec {c : Instr} {s t : State} (h : exec c s = .next t) (hrun : ∀ p f, c ≠ .enterRun p f)
    (hreset : ∀ x, c ≠ .deviceReset x) : s.KeepsSites t := by
  have hports {u v : State} (h' : Changes [] u v) (hu : s.KeepsSites u) : s.KeepsSites v := hu.trans h'.keepsSites
  have hs : s.KeepsSites s := .refl s
  by_cases hc : .gates ∈ touched c ∨ .bins ∈ touched c
  · cases c
    case enterRun p f => exact absurd rfl (hrun p f)
    case deviceReset x => exact absurd rfl (hreset x)
    case lineRestart p f =>
      refine exec_request_keeps hports rfl h hs (withoutPayload_keeps hs ?_ _)
      exact keepsSites_restartLine s
    case binDrain p f =>
      exact exec_request_keeps hports rfl h hs (keepsSites_binRequest (fun b _ => keepsSites_drainBin b s) 1 _)
    case binService p f =>
      exact exec_request_keeps hports rfl h hs (keepsSites_binRequest (fun b _ => keepsSites_serviceBin b s) 1 _)
    case binLock p f =>
      exact exec_request_keeps hports rfl h hs (keepsSites_binRequest (fun b _ => keepsSites_lockBinBody b s) 1 _)
    case binUnload p f =>
      exact exec_request_keeps hports rfl h hs (keepsSites_binRequest (fun _ hb => keepsSites_unloadBin hb) 1 _)
    case binRemoveTop p f =>
      exact exec_request_keeps hports rfl h hs (keepsSites_binRequest (fun _ hb => keepsSites_removeTop _ hb) 2 _)
    case resolveLanded p f | resolveLost p f | resolveClear p f =>
      exact exec_request_keeps hports rfl h hs (keepsSites_binResolveBody p _ s)
    case lotHold p f => exact exec_request_keeps hports rfl h hs (keepsSites_lotHoldBody p _ s)
    case lotRelease p f => exact exec_request_keeps hports rfl h hs (keepsSites_lotReleaseBody p _ s)
    case plyCall p f =>
      refine exec_request_keeps hports rfl h hs ?_
      cases p
      case line => exact hs
      case feeder g => exact keepsSites_plyCallBody g _ s
    case patchCall p f =>
      refine exec_request_keeps hports rfl h hs ?_
      cases p
      case line => exact hs
      case feeder g => exact keepsSites_patchCallBody g _ s
    case pickDone p f =>
      refine exec_request_keeps hports rfl h hs ?_
      cases p
      case line => exact hs
      case feeder g => exact pickBody_keeps hs (keepsSites_pickDone s g) _ g
    case pickFailed p f =>
      refine exec_request_keeps hports rfl h hs ?_
      cases p
      case line => exact hs
      case feeder g => exact pickBody_keeps hs (keepsSites_pickFailed s g) _ g
    case feederStop p f =>
      refine exec_request_keeps hports rfl h hs ?_
      cases p
      case line => exact hs
      case feeder g =>
        change s.KeepsSites (feederStopBody g f.payload s).2
        refine withoutPayload_keeps hs ?_ _
        exact keepsSites_stopFeeder s g
    case armedSwapExchange =>
      cases h
      exact .ite ((keepsSites_completionEvent s).trans (changes_exchangeIfDue (l := [.swap]) _ (by simp)).keepsSites) hs
    case gradingCompletion => cases h; exact keepsSites_completionEvent s
    case encPulse d =>
      cases d
      case forward =>
        obtain rfl : s.settlePosition.forwardPulse = t := by injection h
        exact (keepsSites_settlePosition s).trans (keepsSites_forwardPulse _)
      case reverse =>
        obtain rfl : s.settlePosition.reversePulse = t := by injection h
        exact (keepsSites_settlePosition s).trans (keepsSites_reversePulse _)
    case reversalFault =>
      cases h
      exact .ite ((keepsSites_settlePosition s).trans (keepsSites_reversePulse _)) hs
    case gateOpen b => cases h; exact keepsSites_gateOpenEvent s b
    case gateClose b => cases h; exact keepsSites_gateCloseEvent s b
    case landPulse b =>
      cases h
      exact (keepsSites_landPulse s b).trans (changes_takeConditions (l := []) _ s).keepsSites
    case windowExpiry b n =>
      cases h
      exact (keepsSites_windowExpiry s b n).trans (changes_takeConditions (l := []) _ s).keepsSites
    case waitExpiry f => cases h; exact keepsSites_waitExpiry s f
    all_goals simp [touched] at hc
  · simp only [not_or] at hc
    intro b
    rw [State.site_congr (same_of_exec h hc.1) (same_of_exec h hc.2)]

theorem keepsSites_enterRun_adjusted (s : State) : s.adjusted.KeepsSites s.enterRun := by
  rw [State.enterRun_eq]
  refine .trans (.ite (keepsSites_searchRound _) (.refl _)) (changes_takeConditions (l := []) _ s).keepsSites

theorem State.site_afterReset (s : State) (x : ResetLevels) (b : BinId) : (s.afterReset x).site b = ⟨{}, {}⟩ := by
  have hgate : (s.afterReset x).gate b = {} := Vector.getElem_replicate (a := ({} : Gate)) b.isLt
  have hbin : (s.afterReset x).bin b = {} := Vector.getElem_replicate (a := ({} : BinRec)) b.isLt
  rw [State.site, hgate, hbin]

/-- A property of sites that every change keeps, that a site after reset has, and that the adjustment at ENTER RUN keeps, is
kept by every command. -/
theorem sites_of_exec {P : Site → Prop} (hkept : ∀ {x x' : Site}, x.Kept x' → P x → P x') (hempty : P ⟨{}, {}⟩)
    {c : Instr} {s t : State} (h : exec c s = .next t)
    (hadjusted : s.layoutFault = none → (∀ b, P (s.site b)) → ∀ b, P (s.adjusted.site b))
    (hs : ∀ b, P (s.site b)) : ∀ b, P (t.site b) := by
  have hchange {u v : State} (h' : u.KeepsSites v) (hu : ∀ b, P (u.site b)) (b : BinId) : P (v.site b) :=
    hkept (h' b) (hu b)
  by_cases hrun : ∀ p f, c ≠ .enterRun p f
  · by_cases hreset : ∀ x, c ≠ .deviceReset x
    · exact hchange (keepsSites_of_exec h hrun hreset) hs
    · simp only [ne_eq, not_forall, not_not] at hreset
      obtain ⟨x, rfl⟩ := hreset
      cases h
      intro b
      rw [State.site_afterReset]
      exact hempty
  · simp only [ne_eq, not_forall, not_not] at hrun
    obtain ⟨p, f, rfl⟩ := hrun
    refine exec_request_keeps (P := fun u => ∀ b, P (u.site b)) (fun h' => hchange h'.keepsSites) rfl h hs ?_
    refine withoutPayload_keeps (P := fun u => ∀ b, P (u.site b)) hs ?_ _
    split
    · exact hs
    · split
      · exact hs
      · rename_i hvalid
        exact hchange (keepsSites_enterRun_adjusted s) (hadjusted hvalid hs)

theorem gatesSound_of_exec {c : Instr} {s t : State} (h : exec c s = .next t) (hs : s.GatesSound) : t.GatesSound :=
  sites_of_exec (P := fun x => x.gate.Sound) (fun hk => hk.gate) Gate.sound_empty h
    (fun _ hs b => by rw [State.site_adjusted]; exact hs b) hs

/-- The adjustment at ENTER RUN of a sound bin (R122). -/
theorem binsSound_adjusted {s : State} (hvalid : s.layoutFault = none) (hs : s.BinsSound) (b : BinId) :
    (s.adjusted.site b).bin.Sound := by
  rw [State.site_adjusted]
  refine (hs b).adjusted fun hfit hoff => ?_
  obtain ⟨hstack, hin, hq⟩ := State.empty_of_unfitted hvalid hfit hoff
  unfold State.inbound at hin
  exact ⟨hstack, List.length_eq_zero_iff.1 (by omega), hq⟩

theorem binsSound_of_exec {c : Instr} {s t : State} (h : exec c s = .next t) (hs : s.BinsSound) : t.BinsSound :=
  sites_of_exec (P := fun x => x.bin.Sound) (fun hk => hk.bin) (BinRec.sound_off _ _) h binsSound_adjusted hs

theorem floatsReleased_of_exec {c : Instr} {s t : State} (h : exec c s = .next t) (hs : s.FloatsReleased) :
    t.FloatsReleased :=
  sites_of_exec (P := Site.Released) (fun hk => hk.released) (fun _ _ _ _ => rfl) h
    (fun _ _ b => by rw [State.site_adjusted]; exact Site.released_adjusted _ _ _) hs

theorem binsBounded_of_exec {c : Instr} {s t : State} (h : exec c s = .next t) (hy : s.LayoutsSound)
    (hbins : s.BinsSound) (hs : s.BinsBounded) : t.BinsBounded := by
  have hboth : ∀ b, (t.site b).bin.Sound ∧ (t.site b).Fits := by
    refine sites_of_exec (P := fun x => x.bin.Sound ∧ x.Fits) (fun hk hx => ⟨hk.bin hx.1, hk.fits hx.1 hx.2⟩)
      ⟨BinRec.sound_off _ _, by decide, by decide, by decide⟩ h (fun hvalid hs b => ?_) fun b => ⟨hbins b, hs b⟩
    have hkept := site_adjusted_kept hy.1 hvalid b
    exact ⟨hkept.bin (hs b).1, hkept.fits (hs b).1 (hs b).2⟩
  exact fun b => (hboth b).2

/-- Settles O58. -/
theorem gatesAndBinsStaySound : Obligations.GatesAndBinsStaySound := by
  intro s t h
  refine ⟨step_keeps (fun _ _ hs => hs) (fun _ _ hs => hs) (fun _ _ _ => gatesSound_of_exec) h,
    step_keeps (fun _ _ hs => hs) (fun _ _ hs => hs) (fun _ _ _ => binsSound_of_exec) h,
    step_keeps (fun _ _ hs => hs) (fun _ _ hs => hs) (fun _ _ _ => floatsReleased_of_exec) h, fun hy hbins hs => ?_⟩
  have hall := step_keeps (P := fun s => s.LayoutsSound ∧ s.BinsSound ∧ s.BinsBounded) (fun _ _ hs => hs)
    (fun _ _ hs => hs) (fun _ _ _ hexec hs => ⟨layoutsSound_of_exec hexec hs.1, binsSound_of_exec hexec hs.2.1,
      binsBounded_of_exec hexec hs.1 hs.2.1 hs.2.2⟩) h ⟨hy, hbins, hs⟩
  exact hall.2.2

end Sys2Proof.Machine
end

section
/-! Recipes, calls and claims stay sound (R123, R124, R139, R141). -/

namespace Sys2Proof.Machine

set_option Elab.async false

open Sys2Proof

/-! ## Recipe queues (R123 to R136) -/

/-- The recipe position against the queue: absent, or on a ply of the head. -/
theorem FeederRec.recipesSound_iff (r : FeederRec) :
    r.RecipesSound ↔ r.recipes.length ≤ 2 ∧ (∀ x ∈ r.recipes, 1 ≤ x.plies.length ∧ x.plies.length ≤ 15) ∧
      (r.recipes = [] ∧ r.position = none ∨
        ∃ head rest p, r.recipes = head :: rest ∧ r.position = some p ∧ 1 ≤ p ∧ p ≤ head.plies.length) := by
  unfold FeederRec.RecipesSound
  rcases r.recipes with _ | ⟨head, rest⟩ <;> rcases r.position with _ | p
  · simp [Config.recipeQueueDepth, Config.plyMax]
  · simp
  · simp
  · simp [Config.recipeQueueDepth, Config.plyMax]

theorem FeederRec.RecipesSound.of_eq {r r' : FeederRec} (h : r.RecipesSound) (hr : r'.recipes = r.recipes)
    (hp : r'.position = r.position) : r'.RecipesSound := by
  unfold FeederRec.RecipesSound at *
  rwa [hr, hp]

/-- A queue with its position at 1. -/
theorem FeederRec.recipesSound_first {r : FeederRec} {head : Recipe} {rest : List Recipe} (hr : r.recipes = head :: rest)
    (hp : r.position = some 1) (hlen : r.recipes.length ≤ 2)
    (hplies : ∀ x ∈ r.recipes, 1 ≤ x.plies.length ∧ x.plies.length ≤ 15) : r.RecipesSound :=
  r.recipesSound_iff.2 ⟨hlen, hplies, .inr ⟨head, rest, 1, hr, hp, le_refl 1, (hplies head (by simp [hr])).1⟩⟩

theorem FeederRec.recipesSound_empty {r : FeederRec} (hr : r.recipes = []) (hp : r.position = none) : r.RecipesSound :=
  r.recipesSound_iff.2 ⟨by simp [hr], by simp [hr], .inl ⟨hr, hp⟩⟩

theorem FeederRec.RecipesSound.consumed {r : FeederRec} (h : r.RecipesSound) {head : Recipe}
    (hhead : r.recipes.head? = some head) : r.consumed.1.RecipesSound := by
  obtain ⟨hlen, hplies, -⟩ := r.recipesSound_iff.1 h
  unfold FeederRec.consumed
  split
  · rename_i second rest hr
    rw [hr] at hlen hplies
    exact recipesSound_first rfl rfl (Nat.le_of_succ_le hlen) fun x hx => hplies x (List.mem_cons_of_mem _ hx)
  · split
    · obtain ⟨tail, htail⟩ := List.head?_eq_some_iff.1 hhead
      exact recipesSound_first htail rfl hlen hplies
    · exact recipesSound_empty rfl rfl

/-- A consumption changes the queue and the position alone. -/
theorem FeederRec.consumed_eq (r : FeederRec) :
    ∃ recipes position, r.consumed.1 = { r with recipes := recipes, position := position } := by
  unfold FeederRec.consumed
  split
  · exact ⟨_, _, rfl⟩
  · split <;> exact ⟨_, _, rfl⟩

/-- A flush changes the queue and the position alone. -/
theorem FeederRec.flushed_eq (r : FeederRec) :
    ∃ recipes position, r.flushed = { r with recipes := recipes, position := position } := by
  unfold FeederRec.flushed
  split <;> exact ⟨_, _, rfl⟩

theorem FeederRec.RecipesSound.flushed {r : FeederRec} (h : r.RecipesSound) : r.flushed.RecipesSound := by
  obtain ⟨-, hplies, -⟩ := r.recipesSound_iff.1 h
  unfold FeederRec.flushed
  split
  · rename_i head rest _ hr
    exact recipesSound_first rfl rfl (Nat.le_succ 1) fun x hx => hplies x (by simp_all)
  · exact recipesSound_empty rfl rfl
  · exact recipesSound_empty rfl rfl

/-- A payload's ply specs are as many as it names. -/
theorem length_of_plySpecsAt {l : List Byte} {n i : Nat} {specs : List PlySpec} (h : plySpecsAt l i n = some specs) :
    specs.length = n := by
  induction n generalizing i specs with
  | zero => cases h; rfl
  | succ n ih =>
    unfold plySpecsAt at h
    split at h
    · rename_i hrest
      cases h
      rw [List.length_cons, ih hrest]
    · cases h

theorem plies_of_recipeOf {l : List Byte} {x : Recipe} (h : recipeOf l = some x) :
    1 ≤ x.plies.length ∧ x.plies.length ≤ 15 := by
  unfold recipeOf at h
  dsimp only at h
  split at h
  · cases h
  · rename_i hn
    simp only [not_or, Config.plyMax] at hn
    obtain ⟨specs, hspecs, rfl⟩ := Option.map_eq_some_iff.1 h
    have := length_of_plySpecsAt hspecs
    dsimp only
    omega

theorem FeederRec.RecipesSound.load {r : FeederRec} (h : r.RecipesSound) {l : List Byte} {x : Recipe}
    (hx : recipeOf l = some x) (hroom : ¬Config.recipeQueueDepth ≤ r.recipes.length) : (r.load x).RecipesSound := by
  obtain ⟨hlen, hplies, hpos⟩ := r.recipesSound_iff.1 h
  have hall : ∀ y ∈ (r.load x).recipes, 1 ≤ y.plies.length ∧ y.plies.length ≤ 15 := by
    intro y hy
    rcases List.mem_append.1 hy with hy | hy
    · exact hplies y hy
    · rw [List.mem_singleton.1 hy]
      exact plies_of_recipeOf hx
  have hlen' : (r.load x).recipes.length ≤ 2 := by
    simpa [FeederRec.load, Config.recipeQueueDepth] using hroom
  rcases hpos with ⟨hnone, -⟩ | ⟨head, rest, p, hr, hp, hbounds⟩
  · exact recipesSound_first (head := x) (rest := []) (by simp [FeederRec.load, hnone]) (by simp [FeederRec.load, hnone])
      hlen' hall
  · exact (recipesSound_iff _).2 ⟨hlen', hall, .inr ⟨head, rest ++ [x], p, by simp [FeederRec.load, hr],
      by simp [FeederRec.load, hr, hp], hbounds⟩⟩

/-! ## Calls (R139 to R160) -/

theorem FeederRec.CallSound.of_eq {r r' : FeederRec} (h : r.CallSound) (hsize : r'.groupSize = r.groupSize)
    (hu : r'.unserved = r.unserved) (hg : r'.grants = r.grants) (hp : r'.patch = r.patch)
    (hw : r'.waiting.isSome → r.waiting.isSome) : r'.CallSound := by
  obtain ⟨h1, h4, hsum, hun, hgr, hpatch, hwait⟩ := h
  refine ⟨by rwa [hsize], by rwa [hsize], by rwa [hu, hg], by rwa [hu], by rwa [hg], by rwa [hp], fun hsome => ?_⟩
  have := hwait (hw hsome)
  unfold FeederRec.front at *
  rwa [hu, hp]

/-- A granted front ply (R147). -/
theorem FeederRec.CallSound.withGrant {r : FeederRec} (h : r.CallSound) {g : Grant} (hfront : r.front = some g.entry) :
    (r.withGrant g).CallSound := by
  obtain ⟨h1, h4, hsum, hun, hgr, hpatch, -⟩ := h
  unfold FeederRec.withGrant
  split
  · rename_i hp
    exact ⟨h1, h4, hsum, hun, hgr, hp, nofun⟩
  · rename_i hp
    have hhead : r.unserved.head? = some g.entry := by
      unfold FeederRec.front at hfront
      split at hfront
      · rename_i e he
        rw [he] at hpatch
        cases hfront
        exact absurd hpatch hp
      · exact hfront
      · exact hfront
    obtain ⟨rest, hrest⟩ := List.head?_eq_some_iff.1 hhead
    refine ⟨h1, h4, ?_, fun e he => hun e (List.mem_of_mem_tail he), fun x hx => ?_, hpatch, nofun⟩
    · simp only [hrest, List.length_cons, List.tail_cons, List.length_append, List.length_nil] at *
      omega
    · rcases List.mem_append.1 hx with hx | hx
      · exact hgr x hx
      · rw [List.mem_singleton.1 hx]
        simpa using hp

theorem FeederRec.front_withoutGrant (r : FeederRec) (n : StoreNo) : (r.withoutGrant n).front = r.front := by
  unfold FeederRec.front FeederRec.withoutGrant
  cases r.patch with
  | empty => rfl
  | unserved e => rfl
  | granted g =>
    dsimp only
    by_cases hn : g.store = n
    · rw [if_pos hn]
    · rw [if_neg hn]

theorem FeederRec.CallSound.withoutGrant {r : FeederRec} (h : r.CallSound) (n : StoreNo) : (r.withoutGrant n).CallSound := by
  obtain ⟨h1, h4, hsum, hun, hgr, hpatch, hwait⟩ := h
  have hle : (r.withoutGrant n).grants.length ≤ r.grants.length := List.length_filter_le _ _
  refine ⟨h1, h4, (Nat.add_le_add_left hle _).trans hsum, hun, fun g hg => hgr g (List.mem_of_mem_filter hg), ?_, fun hw => ?_⟩
  · unfold FeederRec.withoutGrant
    cases hp : r.patch with
    | empty => trivial
    | unserved e => rw [hp] at hpatch; exact hpatch
    | granted g =>
      rw [hp] at hpatch
      dsimp only
      by_cases hn : g.store = n
      · rw [if_pos hn]
        trivial
      · rw [if_neg hn]
        exact hpatch
  · rw [FeederRec.front_withoutGrant]
    exact hwait hw

theorem length_insertReServed (e : PlyEntry) (l : List PlyEntry) : (insertReServed e l).length = l.length + 1 := by
  have := congrArg List.length (List.takeWhile_append_dropWhile (p := fun x : PlyEntry => x.reServed) (l := l))
  unfold insertReServed
  simp only [List.length_append, List.length_cons] at *
  omega

theorem mem_insertReServed {e x : PlyEntry} {l : List PlyEntry} (h : x ∈ insertReServed e l) : x = e ∨ x ∈ l := by
  rcases List.mem_append.1 h with h | h
  · exact .inr ((List.takeWhile_sublist _).subset h)
  · rcases List.mem_cons.1 h with h | h
    · exact .inl h
    · exact .inr ((List.dropWhile_sublist _).subset h)

/-- A lost ply put back into a call with room for it (R160). -/
theorem FeederRec.CallSound.reServe {r : FeederRec} (h : r.CallSound) {e : PlyEntry}
    (hroom : e.origin.isPatch = false → r.unserved.length + r.grants.length < 4) : (r.reServe e).CallSound := by
  obtain ⟨h1, h4, hsum, hun, hgr, hpatch, hwait⟩ := h
  unfold FeederRec.reServe
  dsimp only
  split
  · rename_i hp
    exact ⟨h1, h4, hsum, hun, hgr, hp, fun _ => rfl⟩
  · rename_i hp
    simp only [Bool.not_eq_true] at hp
    have hne : insertReServed { e with reServed := true } r.unserved ≠ [] := fun hnil => by
      have := length_insertReServed { e with reServed := true } r.unserved
      rw [hnil] at this
      cases this
    refine ⟨h1, h4, ?_, fun x hx => ?_, hgr, hpatch, fun _ => ?_⟩
    · have := hroom hp
      dsimp only
      rw [length_insertReServed]
      omega
    · rcases mem_insertReServed hx with rfl | hx
      · exact hp
      · exact hun x hx
    · have hhead : (insertReServed { e with reServed := true } r.unserved).head?.isSome := by
        simpa [List.isSome_head?] using hne
      unfold FeederRec.front
      dsimp only
      split
      · rfl
      · exact hhead
      · exact hhead

theorem FeederRec.CallSound.loseGrant {r : FeederRec} (h : r.CallSound) (n : StoreNo) : (r.loseGrant n).CallSound := by
  unfold FeederRec.loseGrant
  split
  · rename_i g hg
    refine (h.withoutGrant n).reServe fun hcall => ?_
    obtain ⟨-, -, hsum, -, -, hpatch, -⟩ := h
    have hmem : g ∈ r.grants ∧ g.store = n := by
      unfold FeederRec.grantOf at hg
      split at hg
      · rename_i g' hfind
        cases hg
        exact ⟨List.mem_of_find?_eq_some hfind, by simpa using List.find?_some hfind⟩
      · split at hg
        · rename_i g' hp
          split at hg
          · cases hg
            rw [hp] at hpatch
            exact absurd hpatch (by simp [hcall])
          · cases hg
        · cases hg
        · cases hg
    have hlt : (r.withoutGrant n).grants.length < r.grants.length :=
      List.length_filter_lt_length_iff_exists.2 ⟨g, hmem.1, by simp [hmem.2]⟩
    have hun : (r.withoutGrant n).unserved = r.unserved := rfl
    rw [hun]
    omega
  · exact h

theorem isPatch_entriesFrom {n : RecipeNo} {k : Nat} {specs : List PlySpec} {e : PlyEntry}
    (h : e ∈ entriesFrom n k specs) : e.origin.isPatch = false := by
  induction specs generalizing k with
  | nil => cases h
  | cons sp rest ih =>
    rcases List.mem_cons.1 h with rfl | h
    · rfl
    · exact ih h

theorem length_entriesFrom (n : RecipeNo) (k : Nat) (specs : List PlySpec) :
    (entriesFrom n k specs).length = specs.length := by
  induction specs generalizing k with
  | nil => rfl
  | cons sp rest ih => rw [entriesFrom, List.length_cons, ih, List.length_cons]

/-- An idle call takes its group (R143). -/
theorem FeederRec.CallSound.called {r : FeederRec} (h : r.CallSound) (hidle : r.callState = .idle) (head : Recipe)
    (p : Nat) : ({ r with unserved := r.plyGroup head p } : FeederRec).CallSound := by
  obtain ⟨h1, h4, -, -, hgr, hpatch, hwait⟩ := h
  have hnone : r.unserved = [] ∧ r.grants = [] := by
    unfold FeederRec.callState at hidle
    split_ifs at hidle with hu hg
    exact ⟨by simpa using hu, by simpa using hg⟩
  obtain ⟨hu, hg⟩ := hnone
  refine ⟨h1, h4, ?_, fun e he => isPatch_entriesFrom he, hgr, hpatch, fun hw => ?_⟩
  · have : (r.plyGroup head p).length ≤ r.groupSize := by
      rw [FeederRec.plyGroup, length_entriesFrom]
      exact List.length_take_le _ _
    dsimp only
    rw [hg]
    exact this.trans h4
  · have hfront := hwait hw
    unfold FeederRec.front at hfront ⊢
    cases hp : r.patch with
    | unserved e => rfl
    | empty => simp [hp, hu] at hfront
    | granted g => simp [hp, hu] at hfront

/-! ## What a change keeps of calls and claims -/

/-- What a change keeps: sound recipes and calls, and sound claims. -/
def State.KeepsCalls (s t : State) : Prop := (s.FeedersSound → t.FeedersSound) ∧ (s.ClaimsSound → t.ClaimsSound)

@[refl] theorem State.KeepsCalls.refl (s : State) : s.KeepsCalls s := ⟨id, id⟩

theorem State.KeepsCalls.trans {s t u : State} (h : s.KeepsCalls t) (h' : t.KeepsCalls u) : s.KeepsCalls u :=
  ⟨fun hs => h'.1 (h.1 hs), fun hs => h'.2 (h.2 hs)⟩

theorem State.KeepsCalls.ite {s t u : State} {c : Prop} [Decidable c] (h : s.KeepsCalls t) (h' : s.KeepsCalls u) :
    s.KeepsCalls (if c then t else u) := by
  split
  · exact h
  · exact h'

theorem State.KeepsCalls.foldl {α : Type} {f : State → α → State} (hf : ∀ (s : State) a, s.KeepsCalls (f s a)) (as : List α)
    (s : State) : s.KeepsCalls (as.foldl f s) := by
  induction as generalizing s with
  | nil => exact .refl s
  | cons a as ih => exact (hf s a).trans (ih _)

/-- The claims of a feeder are gone, or none has joined and its wait is as it was. -/
theorem State.ClaimsSound.of_claims {s t : State} (hs : s.ClaimsSound)
    (h : ∀ g, (∀ b, (t.bin b).claim ≠ some g) ∨
      (∀ b, (t.bin b).claim = some g → (s.bin b).claim = some g) ∧ (t.feeder g).waiting = (s.feeder g).waiting) :
    t.ClaimsSound := by
  intro b g hb
  rcases h g with hnone | ⟨hold, hwait⟩
  · exact absurd hb (hnone b)
  · rw [hwait]
    exact hs b g (hold b hb)

theorem State.FeedersSound.of_feeders {s t : State} (hs : s.FeedersSound) (h : t.feeders = s.feeders) :
    t.FeedersSound := fun f => by
  rw [State.feeder_congr h]
  exact hs f

/-- Feeders and claims unchanged, or some claims gone. -/
theorem keepsCalls_of_bins {s t : State} (hf : t.feeders = s.feeders)
    (hb : ∀ b, (t.bin b).claim = none ∨ (t.bin b).claim = (s.bin b).claim) : s.KeepsCalls t := by
  refine ⟨fun hs => hs.of_feeders hf, fun hs => hs.of_claims fun g => .inr ⟨fun b h => ?_, ?_⟩⟩
  · rcases hb b with hb | hb
    · rw [hb] at h; cases h
    · rwa [← hb]
  · rw [State.feeder_congr hf]

/-- A change outside the bins and the feeders. -/
theorem Changes.keepsCalls {l : List Part} {s t : State} (h : Changes l s t) (hb : .bins ∉ l := by simp)
    (hf : .feeders ∉ l := by simp) : s.KeepsCalls t :=
  keepsCalls_of_bins (h _ hf) fun b => .inr (by rw [State.bin_congr (h _ hb)])

theorem keepsCalls_setBin {s : State} {b : BinId} {r : BinRec} (h : r.claim = none ∨ r.claim = (s.bin b).claim) :
    s.KeepsCalls (s.setBin b r) := by
  refine keepsCalls_of_bins rfl fun c => ?_
  rw [State.bin_setBin]
  split
  · rename_i hc; rw [hc]; exact h
  · exact .inr rfl

theorem keepsCalls_mapBins {s : State} {f : BinRec → BinRec} (h : ∀ r, (f r).claim = none ∨ (f r).claim = r.claim) :
    s.KeepsCalls (s.mapBins f) :=
  keepsCalls_of_bins rfl fun b => by rw [State.bin_mapBins]; exact h _

theorem keepsCalls_clearClaim (s : State) (f : Feeder) : s.KeepsCalls (s.clearClaim f) :=
  keepsCalls_mapBins fun r => by
    split
    · exact .inl rfl
    · exact .inr rfl

theorem State.claim_clearClaim_ne (s : State) (f : Feeder) (b : BinId) : ((s.clearClaim f).bin b).claim ≠ some f := by
  rw [State.bin_clearClaim]
  dsimp only
  split
  · exact nofun
  · rename_i h; exact h

theorem keepsCalls_floatRelease (s : State) (b : BinId) : s.KeepsCalls (s.floatRelease b) :=
  keepsCalls_setBin (.inr (by unfold BinRec.floatRelease; split <;> rfl))

theorem State.FeedersSound.setFeeder {s : State} (hs : s.FeedersSound) {f : Feeder} {r : FeederRec}
    (hr : r.RecipesSound ∧ r.CallSound) : (s.setFeeder f r).FeedersSound := by
  intro g
  rw [State.feeder_setFeeder]
  split
  · exact hr
  · exact hs g

/-- A feeder's record that stays sound, with the wait as it was, or with no claim of the feeder. -/
theorem keepsCalls_setFeeder {s : State} {f : Feeder} {r : FeederRec}
    (hr : (s.feeder f).RecipesSound → r.RecipesSound) (hc : (s.feeder f).CallSound → r.CallSound)
    (hw : r.waiting = (s.feeder f).waiting ∨ (s.ClaimsSound → ∀ b, (s.bin b).claim ≠ some f)) :
    s.KeepsCalls (s.setFeeder f r) := by
  have hbins (b : BinId) : (s.setFeeder f r).bin b = s.bin b := State.bin_congr (by simp) b
  refine ⟨fun hs => hs.setFeeder ⟨hr (hs f).1, hc (hs f).2⟩, fun hs => hs.of_claims fun g => ?_⟩
  simp only [hbins, State.feeder_setFeeder]
  by_cases hg : g = f
  · rw [hg, if_pos rfl]
    rcases hw with hw | hw
    · exact .inr ⟨fun _ h => h, hw⟩
    · exact .inl (hw hs)
  · rw [if_neg hg]
    exact .inr ⟨fun _ h => h, rfl⟩

/-- A claim on the target of the feeder's own wait. -/
theorem keepsCalls_claimTarget {s : State} {f : Feeder} {w : Wait} (hw : (s.feeder f).waiting = some w) :
    s.KeepsCalls (s.claimTarget f w.target) := by
  have hfeeders : (s.claimTarget f w.target).feeders = s.feeders := by
    unfold State.claimTarget
    split
    · rfl
    · split <;> rfl
  refine ⟨fun hs => hs.of_feeders hfeeders, fun hs b g hb => ?_⟩
  rw [State.feeder_congr hfeeders]
  rw [State.bin_claimTarget] at hb
  dsimp only at hb
  split at hb
  · rename_i h
    cases hb
    exact ⟨w, hw, h.1⟩
  · exact hs b g hb

/-- A feeder's record and the clearing of its claim are set apart. -/
theorem State.setFeeder_clearClaim (s : State) (f : Feeder) (r : FeederRec) :
    (s.setFeeder f r).clearClaim f = (s.clearClaim f).setFeeder f r := by cases f <;> rfl

/-! ## Search rounds -/

theorem keepsCalls_send (s : State) (p : Port) (o : OutcomeRec) : s.KeepsCalls (s.send p o) :=
  (changes_send (l := []) s p o).keepsCalls

theorem keepsCalls_advanceRecipe (s : State) (f : Feeder) : s.KeepsCalls (s.advanceRecipe f) := by
  unfold State.advanceRecipe
  dsimp only
  split
  · rename_i head p hhead hpos
    split
    · rename_i hlt
      refine keepsCalls_setFeeder (fun hr => ?_) (fun hc => hc.of_eq rfl rfl rfl rfl id) (.inl rfl)
      obtain ⟨hlen, hplies, -⟩ := (FeederRec.recipesSound_iff _).1 hr
      obtain ⟨rest, hrest⟩ := List.head?_eq_some_iff.1 hhead
      exact (FeederRec.recipesSound_iff _).2 ⟨hlen, hplies, .inr ⟨head, rest, p + 1, hrest, rfl, Nat.le_add_left 1 p, hlt⟩⟩
    · obtain ⟨recipes, position, heq⟩ := (s.feeder f).consumed_eq
      refine (keepsCalls_setFeeder (fun hr => hr.consumed hhead) (fun hc => ?_) (.inl ?_)).trans (keepsCalls_send _ _ _)
      · rw [heq]
        exact hc.of_eq rfl rfl rfl rfl id
      · rw [heq]
  · exact .refl s

/-- A grant: the wait of the feeder ends with its claim (R147). -/
theorem keepsCalls_grantPly {s : State} {f : Feeder} {e : PlyEntry} (hfront : (s.feeder f).front = some e) (b : BinId)
    (x : Sheet) : s.KeepsCalls (s.grantPly f e b x) := by
  unfold State.grantPly
  dsimp only
  refine State.KeepsCalls.trans ?_ (changes_firstTurn (l := []) _ _).keepsCalls
  refine State.KeepsCalls.trans ?_ (changes_endComplete (l := []) _ _ _).keepsCalls
  refine .trans ?_ (.ite (keepsCalls_advanceRecipe _ f) (.refl _))
  refine .trans ?_ (keepsCalls_send _ _ _)
  have hmark : s.KeepsCalls (s.setBin b ((s.bin b).mark x.store (some f))) := keepsCalls_setBin (.inr rfl)
  have hfeeder : (s.setBin b ((s.bin b).mark x.store (some f))).feeder f = s.feeder f := rfl
  revert hmark hfeeder
  generalize s.setBin b ((s.bin b).mark x.store (some f)) = u
  intro hmark hfeeder
  refine hmark.trans ?_
  rw [← hfeeder] at hfront ⊢
  have hcall (hs : (u.feeder f).CallSound) : ((u.feeder f).withGrant ⟨e, b, x.store⟩).CallSound := hs.withGrant hfront
  have hrecipes (hs : (u.feeder f).RecipesSound) : ((u.feeder f).withGrant ⟨e, b, x.store⟩).RecipesSound := by
    unfold FeederRec.withGrant
    split <;> exact hs.of_eq rfl rfl
  split
  · rw [State.setFeeder_clearClaim]
    exact (keepsCalls_clearClaim u f).trans
      (keepsCalls_setFeeder hrecipes hcall (.inr fun _ => State.claim_clearClaim_ne u f))
  · rename_i hwait
    refine keepsCalls_setFeeder hrecipes hcall (.inr fun hs c hc => ?_)
    obtain ⟨w, hw, -⟩ := hs c f hc
    rw [hw] at hwait
    exact hwait rfl

/-- A wait with its claim, for a feeder that has a front ply and claims nothing yet (R149). -/
theorem keepsCalls_wait {s : State} {f : Feeder} {w : Wait} (hfront : (s.feeder f).front.isSome)
    (hunclaimed : s.ClaimsSound → ∀ b, (s.bin b).claim ≠ some f) :
    s.KeepsCalls ((s.setFeeder f { s.feeder f with waiting := some w }).claimTarget f w.target) := by
  refine (keepsCalls_setFeeder (fun hr => ?_) (fun hc => ?_) (.inr hunclaimed)).trans (keepsCalls_claimTarget ?_)
  · exact hr.of_eq rfl rfl
  · obtain ⟨h1, h4, hsum, hun, hgr, hpatch, -⟩ := hc
    exact ⟨h1, h4, hsum, hun, hgr, hpatch, fun _ => hfront⟩
  · rw [State.feeder_setFeeder_self]

theorem keepsCalls_startWait {s : State} {f : Feeder} {e : PlyEntry} (hfront : (s.feeder f).front = some e)
    (hw : (s.feeder f).waiting = none) : s.KeepsCalls (s.startWait f e) := by
  refine keepsCalls_wait (w := ⟨(s.bestBin e.spec (s.blocked f e.spec)).map (·.bin), _⟩) (by rw [hfront]; rfl)
    fun hs b hb => ?_
  obtain ⟨w, hw', -⟩ := hs b f hb
  rw [hw] at hw'
  cases hw'

theorem keepsCalls_reconsider {s : State} {f : Feeder} {e : PlyEntry} (hfront : (s.feeder f).front = some e) {w : Wait}
    (hw : (s.feeder f).waiting = some w) : s.KeepsCalls (s.reconsider f e w) := by
  unfold State.reconsider
  split
  · exact keepsCalls_claimTarget hw
  · refine (keepsCalls_clearClaim s f).trans ?_
    exact keepsCalls_wait (s := s.clearClaim f) (w := { w with target := (s.bestBin e.spec (s.blocked f e.spec)).map (·.bin) })
      (by rw [State.feeder_congr (State.clearClaim_feeders s f), hfront]; rfl) fun _ => State.claim_clearClaim_ne s f

theorem keepsCalls_serveFeeder (s : State) (f : Feeder) : s.KeepsCalls (s.serveFeeder f).1 := by
  unfold State.serveFeeder
  split
  · exact .refl s
  · rename_i e hfront
    split
    · exact keepsCalls_grantPly hfront _ _
    · split
      · rename_i hw
        exact keepsCalls_startWait hfront hw
      · rename_i w hw
        exact keepsCalls_reconsider hfront hw

theorem keepsCalls_roundFrom (s : State) (k : Nat) (f : Feeder) (q : Nat) : s.KeepsCalls (s.roundFrom k f q) := by
  induction k generalizing s f q with
  | zero => exact .refl s
  | succ k ih =>
    have hserve := keepsCalls_serveFeeder s f
    exact .ite (hserve.trans (ih _ _ _)) (.ite (hserve.trans (ih _ _ _)) hserve)

theorem keepsCalls_searchRoundBy (s : State) (f : Feeder) : s.KeepsCalls (s.searchRoundBy f) := keepsCalls_roundFrom s _ f 0

theorem keepsCalls_searchRound (s : State) : s.KeepsCalls s.searchRound := keepsCalls_searchRoundBy s _

end Sys2Proof.Machine
end

section
/-! What each command keeps of the recipes, calls and claims (R123, R124, R139, R141). -/

namespace Sys2Proof.Machine

set_option Elab.async false

open Sys2Proof

/-! ## Revocations, calls and picks -/

theorem keepsCalls_setAside (s : State) (f : Feeder) : s.KeepsCalls (s.setAside f) := by
  unfold State.setAside
  rw [State.setFeeder_clearClaim]
  refine .ite ((keepsCalls_clearClaim s f).trans (keepsCalls_setFeeder (fun hr => ?_) (fun hc => ?_)
    (.inr fun _ => State.claim_clearClaim_ne s f))) (.refl s)
  · exact FeederRec.RecipesSound.of_eq hr rfl rfl
  · exact FeederRec.CallSound.of_eq hc rfl rfl rfl rfl nofun

theorem FeederRec.loseGrant_fields (r : FeederRec) (n : StoreNo) :
    (r.loseGrant n).recipes = r.recipes ∧ (r.loseGrant n).position = r.position ∧
      (r.loseGrant n).waiting = r.waiting := by
  unfold FeederRec.loseGrant FeederRec.reServe
  split
  · dsimp only
    split <;> exact ⟨rfl, rfl, rfl⟩
  · exact ⟨rfl, rfl, rfl⟩

theorem keepsCalls_loseGrant (s : State) (f : Feeder) (n : StoreNo) :
    s.KeepsCalls (s.setFeeder f ((s.feeder f).loseGrant n)) := by
  obtain ⟨hr, hp, hw⟩ := (s.feeder f).loseGrant_fields n
  exact keepsCalls_setFeeder (fun h => h.of_eq hr hp) (fun h => h.loseGrant n) (.inl hw)

theorem keepsCalls_mark (s : State) (b : BinId) (n : StoreNo) (f : Option Feeder) :
    s.KeepsCalls (s.setBin b ((s.bin b).mark n f)) := keepsCalls_setBin (.inr rfl)

theorem keepsCalls_revokeOne (s : State) (b : BinId) (f : Feeder) (n : StoreNo) : s.KeepsCalls (s.revokeOne b f n) :=
  ((keepsCalls_mark s b n none).trans (keepsCalls_loseGrant _ f n)).trans (keepsCalls_send _ _ _)

theorem keepsCalls_raise (s : State) (p : Port) (g : Flag) : s.KeepsCalls (s.raise p g) :=
  keepsCalls_of_bins (State.raise_feeders s p g) fun b => .inr (by rw [State.bin_congr (State.raise_bins s p g)])

theorem keepsCalls_revokeBin (s : State) (b : BinId) (f : Feeder) : s.KeepsCalls (s.revokeBin b f) := by
  refine .trans (.trans (.foldl (fun t n => ?_) _ s) (keepsCalls_raise _ _ _)) (keepsCalls_setAside _ f)
  exact keepsCalls_revokeOne t b f n

theorem keepsCalls_popTop (s : State) (b : BinId) : s.KeepsCalls (s.popTop b) := keepsCalls_setBin (.inr rfl)

theorem keepsCalls_bump (s : State) (c : Counter) : s.KeepsCalls (s.bump c) := .refl s

theorem keepsCalls_pickDone (s : State) (f : Feeder) (b : BinId) (x : Sheet) : s.KeepsCalls (s.pickDone f b x) := by
  refine .trans (.trans (.trans ((keepsCalls_popTop s b).trans ?_) (keepsCalls_bump _ _)) (keepsCalls_floatRelease _ b))
    (keepsCalls_searchRound _)
  exact keepsCalls_setFeeder (fun h => h.of_eq rfl rfl) (fun h => h.withoutGrant _) (.inl rfl)

theorem keepsCalls_pickFailed (s : State) (f : Feeder) (b : BinId) (x : Sheet) : s.KeepsCalls (s.pickFailed f b x) :=
  (((((keepsCalls_popTop s b).trans (keepsCalls_loseGrant _ f _)).trans (keepsCalls_bump _ _)).trans
    (keepsCalls_setAside _ f)).trans (keepsCalls_floatRelease _ b)).trans (keepsCalls_searchRoundBy _ f)

theorem keepsCalls_countShortage (s : State) (f : Feeder) : s.KeepsCalls (s.countShortage f) :=
  (keepsCalls_raise s _ _).trans (keepsCalls_bump _ _)

/-- A feeder's record without its wait, set once its claim is gone. -/
theorem keepsCalls_endWait {s : State} {f : Feeder} {r : FeederRec}
    (hr : (s.feeder f).RecipesSound → r.RecipesSound) (hc : (s.feeder f).CallSound → r.CallSound) :
    s.KeepsCalls ((s.clearClaim f).setFeeder f r) := by
  refine (keepsCalls_clearClaim s f).trans (keepsCalls_setFeeder ?_ ?_ (.inr fun _ => State.claim_clearClaim_ne s f))
  · rwa [State.feeder_congr (State.clearClaim_feeders s f)]
  · rwa [State.feeder_congr (State.clearClaim_feeders s f)]

theorem keepsCalls_callTimeout (s : State) (f : Feeder) (e : PlyEntry) : s.KeepsCalls (s.callTimeout f e) := by
  have hended {o : OutcomeRec} : s.KeepsCalls ((((s.clearClaim f).setFeeder f
      { (s.clearClaim f).feeder f with unserved := [], waiting := none }).send (.feeder f) o).countShortage f) := by
    refine ((keepsCalls_endWait (fun hr => ?_) fun hc => ?_).trans (keepsCalls_send _ _ _)).trans
      (keepsCalls_countShortage _ f)
    · exact FeederRec.RecipesSound.of_eq hr rfl rfl
    · obtain ⟨h1, h4, hsum, -, hgr, hpatch, -⟩ := hc
      exact ⟨h1, h4, (Nat.add_le_add_right (Nat.zero_le _) _).trans hsum, nofun, hgr, hpatch, nofun⟩
  exact .ite (hended.trans (keepsCalls_searchRound _)) hended

theorem keepsCalls_patchTimeout (s : State) (f : Feeder) : s.KeepsCalls (s.patchTimeout f) := by
  refine (((keepsCalls_endWait (fun hr => ?_) fun hc => ?_).trans (keepsCalls_send _ _ _)).trans
    (keepsCalls_countShortage _ f)).trans (keepsCalls_searchRoundBy _ f)
  · exact FeederRec.RecipesSound.of_eq hr rfl rfl
  · obtain ⟨h1, h4, hsum, hun, hgr, -, -⟩ := hc
    exact ⟨h1, h4, hsum, hun, hgr, trivial, nofun⟩

theorem keepsCalls_now (s : State) (n : Nat) : s.KeepsCalls { s with now := n } := .refl s

theorem keepsCalls_waitExpiry (s : State) (f : Feeder) : s.KeepsCalls (s.waitExpiry f) := by
  unfold State.waitExpiry
  split
  · exact (keepsCalls_now s _).trans (.ite (keepsCalls_patchTimeout _ f) (keepsCalls_callTimeout _ f _))
  · exact .refl s

theorem keepsCalls_releaseMarks (s : State) (gs : List Grant) : s.KeepsCalls (s.releaseMarks gs) :=
  .foldl (fun (t : State) (g : Grant) => keepsCalls_mark t g.bin g.store none) gs s

/-- Marks are released in the bins' stacks alone. -/
theorem State.claim_releaseMarks (gs : List Grant) (s : State) (b : BinId) :
    ((s.releaseMarks gs).bin b).claim = (s.bin b).claim := by
  unfold State.releaseMarks
  induction gs generalizing s with
  | nil => rfl
  | cons g gs ih =>
    rw [List.foldl_cons, ih, State.bin_setBin]
    split
    · rename_i h; rw [h]; rfl
    · rfl

theorem FeederRec.CallSound.stopped {r : FeederRec} (h : r.CallSound) :
    ({ r.flushed with unserved := [], grants := [], patch := .empty, waiting := none } : FeederRec).CallSound := by
  obtain ⟨h1, h4, -⟩ := h
  obtain ⟨recipes, position, heq⟩ := r.flushed_eq
  rw [heq]
  exact ⟨h1, h4, Nat.zero_le _, nofun, nofun, trivial, nofun⟩

theorem keepsCalls_stopFeeder (s : State) (f : Feeder) : s.KeepsCalls (s.stopFeeder f) := by
  unfold State.stopFeeder
  dsimp only
  have hfeeder : ((s.clearClaim f).releaseMarks (s.feeder f).allGrants).feeder f = s.feeder f :=
    State.feeder_congr (by rw [State.releaseMarks_feeders, State.clearClaim_feeders]) f
  refine .trans ?_ (keepsCalls_searchRound _)
  refine .trans (t := (((s.clearClaim f).releaseMarks (s.feeder f).allGrants).setFeeder f _).send (.feeder f) _) ?_
    (.ite (.refl _) (keepsCalls_send _ _ _))
  refine .trans ?_ (keepsCalls_send _ _ _)
  refine ((keepsCalls_clearClaim s f).trans (keepsCalls_releaseMarks _ _)).trans
    (keepsCalls_setFeeder (fun hr => ?_) (fun hc => ?_) (.inr fun _ b => ?_))
  · rw [hfeeder] at hr
    exact hr.flushed.of_eq rfl rfl
  · rw [hfeeder] at hc
    exact hc.stopped
  · rw [State.claim_releaseMarks]
    exact State.claim_clearClaim_ne s f b

theorem keepsCalls_plyCallBody (f : Feeder) (l : List Byte) (s : State) : s.KeepsCalls (plyCallBody f l s).2 := by
  refine withoutPayload_keeps (P := s.KeepsCalls) (.refl s) ?_ l
  dsimp only
  split
  · exact .refl s
  · rename_i hidle
    split
    · exact .refl s
    · refine .trans ?_ (keepsCalls_searchRoundBy _ f)
      refine keepsCalls_setFeeder (fun hr => ?_) (fun hc => ?_) (.inl rfl)
      · exact FeederRec.RecipesSound.of_eq hr rfl rfl
      · exact hc.called (by simpa using hidle) _ _

theorem keepsCalls_patchCallBody (f : Feeder) (l : List Byte) (s : State) : s.KeepsCalls (patchCallBody f l s).2 := by
  unfold patchCallBody
  split
  · exact .refl s
  · split
    · exact .refl s
    · split
      · exact .refl s
      · refine .trans ?_ (keepsCalls_searchRoundBy _ f)
        refine (keepsCalls_setAside s f).trans ?_
        refine keepsCalls_setFeeder (fun hr => ?_) (fun hc => ?_) (.inl rfl)
        · exact FeederRec.RecipesSound.of_eq hr rfl rfl
        · obtain ⟨h1, h4, hsum, hun, hgr, -, -⟩ := hc
          exact ⟨h1, h4, hsum, hun, hgr, rfl, fun _ => rfl⟩

theorem keepsCalls_recipeLoadBody (f : Feeder) (l : List Byte) (s : State) : s.KeepsCalls (recipeLoadBody f l s).2 := by
  unfold recipeLoadBody
  split
  · exact .refl s
  · rename_i x hx
    dsimp only
    split
    · exact keepsCalls_raise s _ _
    · rename_i hroom
      exact keepsCalls_setFeeder (fun hr => hr.load hx hroom) (fun hc => hc.of_eq rfl rfl rfl rfl id) (.inl rfl)

theorem keepsCalls_feederSetupBody (f : Feeder) (l : List Byte) (s : State) : s.KeepsCalls (feederSetupBody f l s).2 := by
  unfold feederSetupBody
  dsimp only
  split
  · exact .refl s
  · split
    · exact .refl s
    · split
      · exact .refl s
      · refine keepsCalls_setFeeder (fun hr => ?_) (fun hc => ?_) (.inl rfl)
        · exact FeederRec.RecipesSound.of_eq hr rfl rfl
        · obtain ⟨-, -, hsum, hun, hgr, hpatch, hwait⟩ := hc
          obtain ⟨h1, h4⟩ := clamp_bounds (lo := 1) (hi := 4) (by decide) (byteAt l 0)
          exact ⟨h1, h4, hsum, hun, hgr, hpatch, hwait⟩

/-! ## Gates, landings and bin requests -/

theorem keepsCalls_closeGate (s : State) (b : BinId) (e : GateEntry) : s.KeepsCalls (s.closeGate b e) := by
  have hqueue : s.KeepsCalls ((s.setGate b (s.gate b).closed).setQueue (removeRecord e.store s.tracker.queue)) := .refl s
  unfold State.closeGate
  dsimp only
  split
  · refine .trans (hqueue.trans ?_) (keepsCalls_floatRelease _ b)
    exact keepsCalls_setBin (.inr rfl)
  · have hlost := (hqueue.trans (keepsCalls_bump _ .lostAtGateClose)).trans (keepsCalls_floatRelease _ b)
    exact .ite (hlost.trans (keepsCalls_searchRound _)) hlost

theorem keepsCalls_gateCloseEvent (s : State) (b : BinId) : s.KeepsCalls (s.gateCloseEvent b) := by
  unfold State.gateCloseEvent
  split
  · exact .ite (keepsCalls_closeGate s b _) (.refl s)
  · exact .refl s

theorem keepsCalls_settlePosition (s : State) : s.KeepsCalls s.settlePosition := by
  unfold State.settlePosition
  dsimp only
  refine .trans ?_ (.foldl (fun t n => (changes_endOfLineEvent (l := []) t n).keepsCalls) _ _)
  refine .trans ?_ (.foldl keepsCalls_gateCloseEvent _ _)
  refine .trans ?_ (.foldl (fun t b => (changes_gateOpenEvent (l := [.gates]) t (by simp) b).keepsCalls) _ _)
  refine .trans ?_ (.foldl (fun t n => (changes_expiryEvent (l := []) t n).keepsCalls) _ _)
  exact (changes_longObjectEvent (l := []) s).keepsCalls

theorem keepsCalls_clearConveyor (s : State) : s.KeepsCalls s.clearConveyor := by
  refine keepsCalls_of_bins rfl fun b => .inr ?_
  have := congrArg (fun x : Site => x.bin.claim) (State.site_clearConveyor s b)
  dsimp only [State.site] at this
  rw [this]
  unfold BinRec.floatRelease
  split <;> rfl

theorem keepsCalls_roundIfInboundGone (s before : State) : s.KeepsCalls (s.roundIfInboundGone before) :=
  .ite (keepsCalls_searchRound s) (.refl s)

theorem keepsCalls_restartLine (s : State) : s.KeepsCalls s.restartLine := by
  unfold State.restartLine
  dsimp only
  refine .trans ?_ (keepsCalls_roundIfInboundGone _ _)
  refine .trans ?_ (changes_exchangeIfDue (l := [.swap]) _ (by simp)).keepsCalls
  refine .trans ?_ (changes_bumpBy (l := []) _ _ _).keepsCalls
  exact keepsCalls_clearConveyor s

theorem keepsCalls_takeReversal (s : State) : s.KeepsCalls s.takeReversal :=
  ((keepsCalls_clearConveyor s).trans
    ((changes_bumpBy (l := []) _ _ _).trans (changes_raiseAll _ _ rfl)).keepsCalls).trans
      (keepsCalls_roundIfInboundGone _ s)

theorem keepsCalls_reversePulse (s : State) : s.KeepsCalls s.reversePulse := by
  unfold State.reversePulse State.reverseStep
  refine .ite ?_ (.refl s)
  exact .ite (.refl s) (.trans (t := s.setResidue (s.activeLayout.divide - 1)) (.refl s) (keepsCalls_takeReversal _))

theorem keepsCalls_routeSheet (s : State) (r : TrackRec) (c : GradeClass) : s.KeepsCalls (s.routeSheet r c) := by
  unfold State.routeSheet
  split
  · exact .refl s
  · split
    · exact .refl s
    · refine .trans (t := (s.setDisposition _ _).setGate _ _) (.refl s) (keepsCalls_setBin (.inr ?_))
      unfold BinRec.taking
      split <;> rfl

theorem keepsCalls_completionEvent (s : State) : s.KeepsCalls s.completionEvent := by
  have hrelease (t : State) : t.KeepsCalls t.releaseEngine :=
    (changes_releaseEngine (l := [.engine, .swap]) t (by simp) (by simp)).keepsCalls
  have hcount (x : GradeResult) : s.KeepsCalls (s.countGrade x) := (changes_countGrade (l := []) s x).keepsCalls
  have hcomplete (t : State) (g : Grading) (r : TrackRec) (x : GradeResult) : t.KeepsCalls (t.completeRecord g r x) := by
    unfold State.completeRecord
    refine .trans (t := t.setQueue (changeRecord g.store (TrackRec.withResult x) t.tracker.queue)) (.refl t) ?_
    unfold State.settleDisposition
    split
    · exact keepsCalls_routeSheet _ _ _
    · exact .refl _
    · exact .refl _
  unfold State.completionEvent
  split
  · exact .refl s
  · dsimp only
    split
    · exact ((hcount _).trans (keepsCalls_send _ _ _)).trans (hrelease _)
    · exact (((hcount _).trans (hcomplete _ _ _ _)).trans (keepsCalls_send _ _ _)).trans (hrelease _)

theorem keepsCalls_cancelGate (s : State) (b : BinId) : s.KeepsCalls (s.cancelGate b) := .refl s

theorem keepsCalls_bumpBy (s : State) (c : Counter) (n : Nat) : s.KeepsCalls (s.bumpBy c n) := .refl s

theorem keepsCalls_secondFailure (s : State) (b : BinId) : s.KeepsCalls (s.secondFailure b) := by
  refine .trans (.trans (.trans ?_ (keepsCalls_bumpBy _ _ _)) (keepsCalls_cancelGate _ b)) (keepsCalls_floatRelease _ b)
  exact keepsCalls_setBin (.inl rfl)

theorem keepsCalls_strayCheck (s : State) (b : BinId) : s.KeepsCalls (s.strayCheck b) := by
  refine .trans (.trans ?_ (keepsCalls_cancelGate _ b)) (keepsCalls_floatRelease _ b)
  exact keepsCalls_setBin (.inr rfl)

theorem keepsCalls_strayLanding (s : State) (b : BinId) : s.KeepsCalls (s.strayLanding b) := by
  have hrevoked : s.KeepsCalls (s.revokeReservations b) := by
    unfold State.revokeReservations
    split
    · exact keepsCalls_revokeBin s b _
    · exact .refl s
  have hcheck : s.KeepsCalls ((s.revokeReservations b).strayCheck b) :=
    hrevoked.trans (keepsCalls_strayCheck _ b)
  unfold State.strayLanding
  dsimp only
  split
  · exact hcheck.trans (keepsCalls_searchRoundBy _ _)
  · exact hcheck.trans (keepsCalls_searchRound _)

theorem keepsCalls_land (s : State) (b : BinId) (x : InFlight) (rest : List InFlight) : s.KeepsCalls (s.land b x rest) := by
  refine .trans ?_ (keepsCalls_bump _ _)
  exact keepsCalls_setBin (.inr rfl)

theorem keepsCalls_countStray (s : State) : s.KeepsCalls s.countStray := .refl s

theorem keepsCalls_countMissed (s : State) : s.KeepsCalls s.countMissed := .refl s

theorem keepsCalls_landPulse (s : State) (b : BinId) : s.KeepsCalls (s.landPulse b) := by
  unfold State.landPulse
  split
  · exact .refl s
  · exact .refl s
  · exact (keepsCalls_land s b _ _).trans (keepsCalls_searchRound _)
  · exact ((keepsCalls_countStray s).trans (keepsCalls_secondFailure _ b)).trans (keepsCalls_searchRound _)
  · exact (keepsCalls_countStray s).trans (keepsCalls_strayLanding _ b)
  · exact (keepsCalls_countStray s).trans (keepsCalls_strayLanding _ b)

theorem keepsCalls_missDrop (s : State) (b : BinId) (x : InFlight) : s.KeepsCalls (s.missDrop b x) := by
  refine .trans ?_ (keepsCalls_cancelGate _ b)
  exact keepsCalls_setBin (.inr rfl)

theorem keepsCalls_windowExpiry (s : State) (b : BinId) (n : StoreNo) : s.KeepsCalls (s.windowExpiry b n) := by
  have hmiss (x : InFlight) : s.KeepsCalls ((s.reachTime x.expiry).missDrop b x).countMissed.searchRound := by
    have hdrop : s.KeepsCalls ((s.reachTime x.expiry).missDrop b x) :=
      .trans (t := s.reachTime x.expiry) (.refl s) (keepsCalls_missDrop _ b x)
    refine .trans ?_ (keepsCalls_searchRound _)
    exact hdrop.trans (keepsCalls_countMissed _)
  unfold State.windowExpiry
  split
  · exact .refl s
  · rename_i x _
    split
    · exact hmiss x
    · exact hmiss x
    · refine .trans ?_ (keepsCalls_searchRound _)
      exact .trans (t := (s.reachTime x.expiry).countMissed) (.refl s) (keepsCalls_secondFailure _ b)
    · exact .refl s
    · exact .refl s

theorem BinRec.resumed_claim (r : BinRec) : r.resumed.claim = r.claim := by
  unfold BinRec.resumed
  split <;> rfl

theorem keepsCalls_resolve (s : State) (b : BinId) (x : ResolveForm) : s.KeepsCalls (s.resolve b x) := by
  cases x
  case landed =>
    refine .trans ?_ (keepsCalls_searchRound _)
    unfold State.resolveLanded
    dsimp only
    split
    · exact .refl s
    · refine .trans ?_ (keepsCalls_bump _ _)
      exact keepsCalls_setBin (.inr (BinRec.resumed_claim _))
  case lost =>
    refine .trans (.trans (.trans ?_ (keepsCalls_bump _ _)) (keepsCalls_floatRelease _ b)) (keepsCalls_searchRound _)
    exact keepsCalls_setBin (.inr (BinRec.resumed_claim _))
  case clear =>
    refine .trans ?_ (keepsCalls_searchRound _)
    exact keepsCalls_setBin (.inr (BinRec.resumed_claim _))

theorem keepsCalls_acceptBin {s t : State} (h : s.KeepsCalls t) (b : BinId) (lead : List Byte) :
    s.KeepsCalls (acceptBin b lead t s).2 := h.trans (changes_takeConditions (l := []) t s).keepsCalls

theorem keepsCalls_enterState (s : State) (b : BinId) (x : BinState) : s.KeepsCalls (s.enterState b x) := by
  refine .trans ?_ (keepsCalls_searchRound _)
  exact keepsCalls_setBin (.inr rfl)

theorem keepsCalls_lockBin (s : State) (b : BinId) : s.KeepsCalls (s.lockBin b) := by
  refine .trans ?_ (keepsCalls_searchRound _)
  refine .trans (.trans (.trans ?_ (keepsCalls_bumpBy _ _ _)) (keepsCalls_cancelGate _ b)) (keepsCalls_floatRelease _ b)
  exact keepsCalls_setBin (.inl rfl)

theorem keepsCalls_unloadTop (s : State) (b : BinId) (n : Nat) : s.KeepsCalls (s.unloadTop b n) := by
  refine .trans (.trans ?_ (keepsCalls_bumpBy _ _ _)) (keepsCalls_floatRelease _ b)
  exact keepsCalls_setBin (.inr rfl)

/-- The answers of the bin requests: a refusal that keeps the state, or what the bin's own body gives. -/
theorem binRequest_keeps {P : State → Prop} {body : BinId → State → Reply × State} {s : State} (hs : P s)
    (h : ∀ b, P (body b s).2) (n : Nat) (l : List Byte) : P (binRequest n body l s).2 := by
  unfold binRequest
  split
  · exact hs
  · split
    · exact hs
    · split
      · exact hs
      · exact h _

theorem keepsCalls_binResolveBody (p : Port) (l : List Byte) (s : State) : s.KeepsCalls (binResolveBody p l s).2 := by
  unfold binResolveBody
  split
  · exact .refl s
  · split
    · split
      · exact .refl s
      · split
        · exact .refl s
        · exact keepsCalls_acceptBin (keepsCalls_resolve s _ _) _ _
    · exact .refl s

theorem keepsCalls_drainBin (b : BinId) (s : State) : s.KeepsCalls (drainBin b s).2 := by
  unfold drainBin
  split
  · exact keepsCalls_acceptBin (keepsCalls_enterState s b _) _ _
  · exact keepsCalls_acceptBin (.refl s) _ _
  · exact .refl s
  · exact .refl s
  · exact .refl s

theorem keepsCalls_serviceBin (b : BinId) (s : State) : s.KeepsCalls (serviceBin b s).2 := by
  unfold serviceBin
  split
  · exact keepsCalls_acceptBin (keepsCalls_enterState s b _) _ _
  · exact keepsCalls_acceptBin (.refl s) _ _
  · split
    · exact .refl s
    · refine keepsCalls_acceptBin (.trans ?_ (keepsCalls_enterState _ b _)) _ _
      exact keepsCalls_setBin (.inr rfl)
  · exact .refl s
  · exact .refl s

theorem keepsCalls_lockBinBody (b : BinId) (s : State) : s.KeepsCalls (lockBinBody b s).2 := by
  unfold lockBinBody
  split
  · exact .refl s
  · exact keepsCalls_acceptBin (keepsCalls_lockBin s b) _ _

theorem keepsCalls_unloadBin (b : BinId) (s : State) : s.KeepsCalls (unloadBin b s).2 := by
  unfold unloadBin
  split
  · exact .refl s
  · exact keepsCalls_acceptBin (keepsCalls_unloadTop s b _) _ _

theorem keepsCalls_removeTop (n : Nat) (b : BinId) (s : State) : s.KeepsCalls (removeTop n b s).2 := by
  unfold removeTop
  split
  · exact .refl s
  · split
    · exact .refl s
    · exact keepsCalls_acceptBin (keepsCalls_unloadTop s b _) _ _

theorem keepsCalls_markLot (s : State) (lot : LotNo) (held : Bool) : s.KeepsCalls (s.markLot lot held) :=
  keepsCalls_mapBins fun _ => .inr rfl

theorem keepsCalls_lotHolds (s : State) (ls : List LotNo) : s.KeepsCalls { s with lotHolds := ls } := .refl s

theorem keepsCalls_lotHoldBody (p : Port) (l : List Byte) (s : State) : s.KeepsCalls (lotHoldBody p l s).2 := by
  unfold lotHoldBody
  split
  · exact .refl s
  · split
    · exact .refl s
    · split
      · exact .refl s
      · exact (keepsCalls_lotHolds s _).trans (keepsCalls_markLot _ _ _)

theorem keepsCalls_lotReleaseBody (p : Port) (l : List Byte) (s : State) : s.KeepsCalls (lotReleaseBody p l s).2 := by
  unfold lotReleaseBody
  split
  · exact .refl s
  · have hmarked : s.KeepsCalls ({ s with lotHolds := s.lotHolds.filter fun x => x ≠ lotAt l }.markLot (lotAt l) false) :=
      (keepsCalls_lotHolds s _).trans (keepsCalls_markLot _ _ _)
    dsimp only
    split
    · exact hmarked.trans (keepsCalls_searchRound _)
    · exact hmarked

theorem keepsCalls_enterRun (s : State) : s.KeepsCalls s.enterRun := by
  have hadjusted : s.KeepsCalls s.adjusted := by
    refine keepsCalls_of_bins rfl fun b => ?_
    have := congrArg (fun x : Site => x.bin.claim) (State.site_adjusted s b)
    dsimp only [State.site] at this
    rw [this]
    unfold BinRec.adjusted
    split
    · split <;> exact .inr rfl
    · exact .inl rfl
  rw [State.enterRun_eq]
  exact (hadjusted.trans (.ite (keepsCalls_searchRound _) (.refl _))).trans (changes_takeConditions (l := []) _ s).keepsCalls

/-! ## The commands -/

theorem FeederRec.sound_reset : ({} : FeederRec).RecipesSound ∧ ({} : FeederRec).CallSound :=
  ⟨FeederRec.recipesSound_empty rfl rfl, by decide, by decide, by decide, nofun, nofun, trivial, nofun⟩

theorem keepsCalls_afterReset (s : State) (x : ResetLevels) : s.KeepsCalls (s.afterReset x) := by
  refine ⟨fun _ f => ?_, fun _ b g hb => ?_⟩
  · cases f <;> exact FeederRec.sound_reset
  · have hsite := congrArg (fun y : Site => y.bin.claim) (State.site_afterReset s x b)
    dsimp only [State.site] at hsite
    rw [hsite] at hb
    cases hb

/-- Every command keeps sound calls and sound claims. -/
theorem keepsCalls_of_exec {c : Instr} {s t : State} (h : exec c s = .next t) : s.KeepsCalls t := by
  have hports {u v : State} (h' : Changes [] u v) (hu : s.KeepsCalls u) : s.KeepsCalls v := hu.trans h'.keepsCalls
  have hs : s.KeepsCalls s := .refl s
  have hfeeder {body : Feeder → List Byte → State → Reply × State} (hb : ∀ g l, s.KeepsCalls (body g l s).2) (p : Port)
      (l : List Byte) : s.KeepsCalls (feederBody body p l s).2 := by
    cases p
    case line => exact hs
    case feeder g => exact hb g l
  by_cases hc : .bins ∈ touched c ∨ .feeders ∈ touched c
  · cases c
    case enterRun p f =>
      refine exec_request_keeps hports rfl h hs (withoutPayload_keeps hs ?_ _)
      split
      · exact hs
      · split
        · exact hs
        · exact keepsCalls_enterRun s
    case deviceReset x => cases h; exact keepsCalls_afterReset s x
    case lineRestart p f =>
      refine exec_request_keeps hports rfl h hs (withoutPayload_keeps hs ?_ _)
      exact keepsCalls_restartLine s
    case binDrain p f =>
      exact exec_request_keeps hports rfl h hs (binRequest_keeps hs (fun b => keepsCalls_drainBin b s) 1 _)
    case binService p f =>
      exact exec_request_keeps hports rfl h hs (binRequest_keeps hs (fun b => keepsCalls_serviceBin b s) 1 _)
    case binLock p f =>
      exact exec_request_keeps hports rfl h hs (binRequest_keeps hs (fun b => keepsCalls_lockBinBody b s) 1 _)
    case binUnload p f =>
      exact exec_request_keeps hports rfl h hs (binRequest_keeps hs (fun b => keepsCalls_unloadBin b s) 1 _)
    case binRemoveTop p f =>
      exact exec_request_keeps hports rfl h hs (binRequest_keeps hs (fun b => keepsCalls_removeTop _ b s) 2 _)
    case resolveLanded p f | resolveLost p f | resolveClear p f =>
      exact exec_request_keeps hports rfl h hs (keepsCalls_binResolveBody p _ s)
    case lotHold p f => exact exec_request_keeps hports rfl h hs (keepsCalls_lotHoldBody p _ s)
    case lotRelease p f => exact exec_request_keeps hports rfl h hs (keepsCalls_lotReleaseBody p _ s)
    case recipeLoad p f =>
      exact exec_request_keeps hports rfl h hs (hfeeder (fun g l => keepsCalls_recipeLoadBody g l s) p _)
    case feederSetup p f =>
      exact exec_request_keeps hports rfl h hs (hfeeder (fun g l => keepsCalls_feederSetupBody g l s) p _)
    case plyCall p f =>
      exact exec_request_keeps hports rfl h hs (hfeeder (fun g l => keepsCalls_plyCallBody g l s) p _)
    case patchCall p f =>
      exact exec_request_keeps hports rfl h hs (hfeeder (fun g l => keepsCalls_patchCallBody g l s) p _)
    case pickDone p f =>
      exact exec_request_keeps hports rfl h hs (hfeeder (fun g l => pickBody_keeps hs (keepsCalls_pickDone s g) l g) p _)
    case pickFailed p f =>
      exact exec_request_keeps hports rfl h hs (hfeeder (fun g l => pickBody_keeps hs (keepsCalls_pickFailed s g) l g) p _)
    case feederStop p f =>
      refine exec_request_keeps hports rfl h hs (hfeeder (fun g l => ?_) p _)
      refine withoutPayload_keeps (P := s.KeepsCalls) hs ?_ l
      exact keepsCalls_stopFeeder s g
    case armedSwapExchange =>
      cases h
      exact .ite ((keepsCalls_completionEvent s).trans (changes_exchangeIfDue (l := [.swap]) _ (by simp)).keepsCalls) hs
    case gradingCompletion => cases h; exact keepsCalls_completionEvent s
    case encPulse d =>
      cases d
      case forward =>
        obtain rfl : s.settlePosition.forwardPulse = t := by injection h
        exact (keepsCalls_settlePosition s).trans
          (changes_forwardPulse (l := [.pos, .travel]) _ (by simp) (by simp)).keepsCalls
      case reverse =>
        obtain rfl : s.settlePosition.reversePulse = t := by injection h
        exact (keepsCalls_settlePosition s).trans (keepsCalls_reversePulse _)
    case reversalFault =>
      cases h
      exact .ite ((keepsCalls_settlePosition s).trans (keepsCalls_reversePulse _)) hs
    case gateClose b => cases h; exact keepsCalls_gateCloseEvent s b
    case landPulse b =>
      cases h
      exact (keepsCalls_landPulse s b).trans (changes_takeConditions (l := []) _ s).keepsCalls
    case windowExpiry b n =>
      cases h
      exact (keepsCalls_windowExpiry s b n).trans (changes_takeConditions (l := []) _ s).keepsCalls
    case waitExpiry f => cases h; exact keepsCalls_waitExpiry s f
    all_goals simp [touched] at hc
  · simp only [not_or] at hc
    exact keepsCalls_of_bins (same_of_exec h hc.2) fun b => .inr (by
      rw [State.bin_congr (same_of_exec h hc.1)])

/-- Settles O59. -/
theorem feedersAndClaimsStaySound : Obligations.FeedersAndClaimsStaySound := by
  intro s t h
  exact ⟨step_keeps (fun _ _ hs => hs) (fun _ _ hs => hs) (fun _ _ _ hexec => (keepsCalls_of_exec hexec).1) h,
    step_keeps (fun _ _ hs => hs) (fun _ _ hs => hs) (fun _ _ _ hexec => (keepsCalls_of_exec hexec).2) h⟩

end Sys2Proof.Machine
end

section
/-! Store numbers (R20): the next one is free, and every command keeps those of the sheets in the part apart. -/

namespace Sys2Proof.Machine

set_option Elab.async false

open Sys2Proof

/-! ## The next store number -/

theorem toNat_storeSucc (n : StoreNo) : (storeSucc n).toNat = n.toNat % 65535 + 1 := by
  have hlt := n.isLt
  unfold storeSucc
  split
  · rename_i h; rw [h]; rfl
  · rename_i h
    have hne : n.toNat ≠ 65535 := fun he => h (BitVec.eq_of_toNat_eq he)
    rw [BitVec.toNat_add]
    simp
    omega

/-- The counter runs through the numbers 1 to 65535 in turn. -/
theorem toNat_storeSucc_iterate (n : StoreNo) (k : Nat) :
    (storeSucc^[k + 1] n).toNat = (n.toNat + k) % 65535 + 1 := by
  induction k with
  | zero => exact toNat_storeSucc n
  | succ k ih =>
    rw [Function.iterate_succ_apply', toNat_storeSucc, ih]
    omega

theorem storeSucc_iterate_injOn (n : StoreNo) :
    Set.InjOn (fun k => storeSucc^[k + 1] n) {k | k < 65535} := by
  intro j hj k hk h
  have := congrArg BitVec.toNat h
  simp only [toNat_storeSucc_iterate, Set.mem_ofPred_eq] at *
  omega

/-- The search passes carried numbers alone, and stops at a free number or when its steps are used up. -/
theorem freeStore_eq_iterate (l : List StoreNo) (fuel : Nat) (n : StoreNo) :
    ∃ k ≤ fuel, freeStore l fuel n = storeSucc^[k + 1] n ∧ (∀ j < k, storeSucc^[j + 1] n ∈ l) ∧
      (k < fuel → storeSucc^[k + 1] n ∉ l) := by
  induction fuel generalizing n with
  | zero => exact ⟨0, le_refl 0, rfl, nofun, nofun⟩
  | succ fuel ih =>
    unfold freeStore
    split
    · rename_i hin
      obtain ⟨k, hk, heq, hbefore, hfree⟩ := ih (storeSucc n)
      refine ⟨k + 1, Nat.succ_le_succ hk, heq, fun j hj => ?_, fun hlt => hfree (Nat.lt_of_succ_lt_succ hlt)⟩
      cases j with
      | zero => exact hin
      | succ j => exact hbefore j (Nat.lt_of_succ_lt_succ hj)
    · rename_i hfree
      exact ⟨0, Nat.zero_le _, rfl, nofun, fun _ => hfree⟩

/-- Settles O21: were the numbers passed and the one reached all carried, the part would carry more than it does. -/
theorem nextStoreNumberIsFree : Obligations.NextStoreNumberIsFree := by
  intro s hlen
  obtain ⟨k, hk, heq, hbefore, hfree⟩ := freeStore_eq_iterate s.carried s.carried.length s.tracker.storeCounter
  refine ⟨freeStore_ne_zero _ _ _, ?_, k, heq, hbefore⟩
  rw [State.nextStore, heq]
  by_cases hlt : k < s.carried.length
  · exact hfree hlt
  · intro hin
    have hall : ∀ j ∈ Finset.range (k + 1), storeSucc^[j + 1] s.tracker.storeCounter ∈ s.carried.toFinset := by
      intro j hj
      rw [List.mem_toFinset]
      obtain hj | rfl := Nat.lt_succ_iff_lt_or_eq.1 (Finset.mem_range.1 hj)
      · exact hbefore j hj
      · exact hin
    have hinj : Set.InjOn (fun j => storeSucc^[j + 1] s.tracker.storeCounter) (Finset.range (k + 1)) :=
      (storeSucc_iterate_injOn _).mono fun j hj => by
        have := Finset.mem_range.1 (Finset.mem_coe.1 hj)
        simp only [Set.mem_ofPred_eq]
        omega
    have hcard := Finset.card_le_card_of_injOn _ hall hinj
    have := s.carried.toFinset_card_le
    simp only [Finset.card_range] at hcard
    omega

/-! ## What a change keeps of the store numbers -/

/-- No sheet has joined: every number is carried as often as before at the most, and none newly. -/
def State.Carries (s t : State) : Prop := t.storeNumbers.Subperm s.storeNumbers ∧ t.carried ⊆ s.carried

@[refl] theorem State.Carries.refl (s : State) : s.Carries s := ⟨List.Subperm.refl _, fun _ h => h⟩

theorem State.Carries.trans {s t u : State} (h : s.Carries t) (h' : t.Carries u) : s.Carries u :=
  ⟨h'.1.trans h.1, fun _ hn => h.2 (h'.2 hn)⟩

theorem State.Carries.ite {s t u : State} {c : Prop} [Decidable c] (h : s.Carries t) (h' : s.Carries u) :
    s.Carries (if c then t else u) := by
  split
  · exact h
  · exact h'

theorem State.Carries.foldl {α : Type} {f : State → α → State} (hf : ∀ (s : State) a, s.Carries (f s a)) (as : List α)
    (s : State) : s.Carries (as.foldl f s) := by
  induction as generalizing s with
  | nil => exact .refl s
  | cons a as ih => exact (hf s a).trans (ih _)

theorem flatMap_subperm {α β : Type} {f g : α → List β} (l : List α) (h : ∀ a, (f a).Subperm (g a)) :
    (l.flatMap f).Subperm (l.flatMap g) := by
  induction l with
  | nil => exact List.Subperm.refl _
  | cons a l ih => exact (h a).append ih

/-- Where the numbers of a state are carried (R20). -/
theorem State.mem_carried {s : State} {n : StoreNo} :
    n ∈ s.carried ↔ n ∈ s.tracked ∨ (∃ b, n ∈ (s.gate b).carried) ∨ ∃ b, n ∈ (s.bin b).carried := by
  simp only [State.carried, State.tracked, List.mem_append, List.mem_flatMap, or_assoc, mem_binsInOrder, true_and]

/-- Each bin carries no more, no tracking record has joined, and no gate has a number that was not carried. -/
theorem carries_of_parts {s t : State} (hq : t.tracked.Sublist s.tracked)
    (hg : ∀ b, ∀ n ∈ (t.gate b).carried, n ∈ s.carried) (hb : ∀ b, (t.bin b).carried.Subperm (s.bin b).carried) :
    s.Carries t := by
  refine ⟨hq.subperm.append (flatMap_subperm _ hb), fun n hn => ?_⟩
  rcases State.mem_carried.1 hn with h | ⟨b, h⟩ | ⟨b, h⟩
  · exact State.mem_carried.2 (.inl (hq.subset h))
  · exact hg b n h
  · exact State.mem_carried.2 (.inr (.inr ⟨b, (hb b).subset h⟩))

theorem State.mem_carried_of_gate {s : State} {n : StoreNo} {b : BinId} (h : n ∈ (s.gate b).carried) : n ∈ s.carried :=
  State.mem_carried.2 (.inr (.inl ⟨b, h⟩))

/-- A change in the bins alone. -/
theorem carries_of_bins {s t : State} (hq : t.tracker.queue = s.tracker.queue) (hg : t.gates = s.gates)
    (hb : ∀ b, (t.bin b).carried.Subperm (s.bin b).carried) : s.Carries t := by
  refine carries_of_parts ?_ (fun b n hn => ?_) hb
  · rw [State.tracked, hq]
    exact List.Sublist.refl _
  · rw [State.gate_congr hg] at hn
    exact State.mem_carried_of_gate hn

/-- A change outside the bins and the gates in which no record joins the tracking queue. -/
theorem Changes.carries {l : List Part} {s t : State} (h : Changes l s t) (hg : .gates ∉ l := by simp)
    (hb : .bins ∉ l := by simp) (hq : .tracked ∉ l := by simp) : s.Carries t := by
  refine carries_of_parts (h _ hq) (fun b n hn => ?_) fun b => ?_
  · rw [State.gate_congr (h _ hg)] at hn
    exact State.mem_carried_of_gate hn
  · rw [State.bin_congr (h _ hb)]

theorem carries_setBin {s : State} {b : BinId} {r : BinRec} (h : r.carried.Subperm (s.bin b).carried) :
    s.Carries (s.setBin b r) := by
  refine carries_of_bins rfl rfl fun c => ?_
  rw [State.bin_setBin]
  split
  · rename_i hc; rw [hc]; exact h
  · exact List.Subperm.refl _

theorem carries_mapBins {s : State} {f : BinRec → BinRec} (h : ∀ r, (f r).carried = r.carried) : s.Carries (s.mapBins f) :=
  carries_of_bins rfl rfl fun b => by rw [State.bin_mapBins, h]

/-- A change of one gate that gives it no number that was not carried. -/
theorem carries_setGate {s : State} {b : BinId} {g : Gate} (h : ∀ n ∈ g.carried, n ∈ s.carried) :
    s.Carries (s.setGate b g) := by
  refine carries_of_parts (List.Sublist.refl _) (fun c n hn => ?_) fun _ => List.Subperm.refl _
  rw [State.gate_setGate] at hn
  split at hn
  · exact h n hn
  · exact State.mem_carried_of_gate hn

/-! ### Records that carry the same numbers -/

theorem BinRec.RoundFrame.carried {r r' : BinRec} (h : r.RoundFrame r') : r'.carried = r.carried := by
  obtain ⟨heq, hstack⟩ := h
  have hstore (l : List Sheet) : l.map (·.store) = (l.map Sheet.unmarked).map (·.store) := by
    rw [List.map_map]; rfl
  have hfl : r'.inFlight = r.inFlight := by rw [heq]
  have hq : r'.questioned = r.questioned := by rw [heq]
  unfold BinRec.carried
  rw [hfl, hq, hstore, hstack, ← hstore]

theorem State.RoundFrame.carries {s t : State} (h : s.RoundFrame t) : s.Carries t :=
  carries_of_bins (by rw [h.tracker]) h.gates fun b => by rw [(h.bins b).carried]

theorem BinRec.carried_floatRelease (r : BinRec) (n : Nat) : (r.floatRelease n).carried = r.carried := by
  unfold BinRec.floatRelease
  split <;> rfl

theorem carries_floatRelease (s : State) (b : BinId) : s.Carries (s.floatRelease b) :=
  carries_setBin (by rw [BinRec.carried_floatRelease])

theorem carries_mark (s : State) (b : BinId) (n : StoreNo) (f : Option Feeder) :
    s.Carries (s.setBin b ((s.bin b).mark n f)) :=
  (State.roundFrame_setBin s b _ (BinRec.roundFrame_mark _ _ _)).carries

theorem carries_searchRound (s : State) : s.Carries s.searchRound := s.roundFrame_searchRound.carries

theorem carries_searchRoundBy (s : State) (f : Feeder) : s.Carries (s.searchRoundBy f) := (s.roundFrame_searchRoundBy f).carries

theorem carries_clearClaim (s : State) (f : Feeder) : s.Carries (s.clearClaim f) := (s.roundFrame_clearClaim f).carries

theorem carries_setFeeder (s : State) (f : Feeder) (r : FeederRec) : s.Carries (s.setFeeder f r) :=
  carries_of_bins (by simp) (by simp) fun b => by rw [State.bin_congr (State.setFeeder_bins s f r)]

theorem carries_send (s : State) (p : Port) (o : OutcomeRec) : s.Carries (s.send p o) := (changes_send (l := []) s p o).carries

theorem carries_bumpBy (s : State) (c : Counter) (n : Nat) : s.Carries (s.bumpBy c n) := .refl s

theorem carries_bump (s : State) (c : Counter) : s.Carries (s.bump c) := .refl s

theorem carries_raise (s : State) (p : Port) (g : Flag) : s.Carries (s.raise p g) := .refl s

/-! ## Gates -/

theorem Gate.mem_carried {g : Gate} {n : StoreNo} :
    n ∈ g.carried ↔ (∃ e, g.lead = some e ∧ e.store = n) ∨ ∃ e, g.follow = some e ∧ e.store = n := by
  simp [Gate.carried]

theorem carries_gateOpenEvent (s : State) (b : BinId) : s.Carries (s.gateOpenEvent b) := by
  refine .ite (carries_setGate fun n hn => State.mem_carried_of_gate (b := b) ?_) (.refl s)
  rw [Gate.mem_carried] at hn ⊢
  rcases hn with ⟨e, he, hne⟩ | h
  · obtain ⟨e', he', rfl⟩ := Option.map_eq_some_iff.1 he
    exact .inl ⟨e', he', hne⟩
  · exact .inr h

theorem carries_cancelGate (s : State) (b : BinId) : s.Carries (s.cancelGate b) := by
  have hqueue (f : TrackRec → TrackRec) (hf : ∀ r, (f r).store = r.store) :
      s.Carries (s.setQueue (s.tracker.queue.map f)) := by
    refine (changes_setQueue (l := []) s _ ?_).carries
    rw [List.map_map]
    exact (List.map_congr_left fun r _ => hf r) ▸ List.Sublist.refl _
  refine (hqueue _ fun r => ?_).trans (carries_setGate fun n hn => State.mem_carried_of_gate (b := b) ?_)
  · split <;> rfl
  · rw [Gate.mem_carried] at hn ⊢
    simp only [Option.filter_eq_some_iff] at hn
    rcases hn with ⟨e, he, hne⟩ | ⟨e, he, hne⟩
    · exact .inl ⟨e, he.1, hne⟩
    · exact .inr ⟨e, he.1, hne⟩

/-- The sheet handed over carries the number of the record that leaves the queue (R83). -/
theorem handOver_stores {s : State} {n : StoreNo} :
    (s.handOver n).map (·.sheet.store) = [] ∨ (s.handOver n).map (·.sheet.store) = [n] ∧ n ∈ s.tracked := by
  unfold State.handOver
  rcases hr : s.record? n with _ | r
  · exact .inl rfl
  · rcases hx : r.sheet with _ | x
    · exact .inl (by simp [hx])
    · have hstore : x.store = r.store := by
        unfold TrackRec.sheet at hx
        split at hx
        · split at hx
          · cases hx; rfl
          · cases hx
        · cases hx
      have hn : r.store = n := by simpa using List.find?_some hr
      refine .inr ⟨by simp [hx, hstore, hn], ?_⟩
      rw [State.tracked, List.mem_map]
      exact ⟨r, List.mem_of_find?_eq_some hr, hn⟩

theorem count_binsInOrder (f : BinId → List StoreNo) (n : StoreNo) :
    (binsInOrder.flatMap f).count n = ∑ b, (f b).count n := by
  rw [List.count_flatMap]
  simp [binsInOrder, Fin.sum_univ_succ]

/-- One bin carries one number more, which leaves the tracking queue (R83). -/
theorem carries_handedOver {s t : State} {b : BinId} {n : StoreNo} (hn : n ∈ s.tracked)
    (hq : t.tracked = s.tracked.filter fun x => x ≠ n) (hb : (t.bin b).carried.Perm (n :: (s.bin b).carried))
    (hne : ∀ c, c ≠ b → (t.bin c).carried = (s.bin c).carried) (hg : ∀ c, ∀ x ∈ (t.gate c).carried, x ∈ s.carried) :
    s.Carries t := by
  refine ⟨List.subperm_ext_iff.2 fun x _ => ?_, fun x hx => ?_⟩
  swap
  · rcases State.mem_carried.1 hx with h | ⟨c, h⟩ | ⟨c, h⟩
    · rw [hq] at h
      exact State.mem_carried.2 (.inl (List.mem_of_mem_filter h))
    · exact hg c x h
    · by_cases hc : c = b
      · rw [hc] at h
        rcases List.mem_cons.1 (hb.subset h) with rfl | h
        · exact State.mem_carried.2 (.inl hn)
        · exact State.mem_carried.2 (.inr (.inr ⟨b, h⟩))
      · rw [hne c hc] at h
        exact State.mem_carried.2 (.inr (.inr ⟨c, h⟩))
  have hcount (c : BinId) : (t.bin c).carried.count x = (s.bin c).carried.count x + if c = b then [n].count x else 0 := by
    split
    · rename_i hc
      rw [hc, hb.count_eq, ← List.singleton_append, List.count_append, Nat.add_comm]
    · rename_i hc
      rw [hne c hc]
      rfl
  have hsum : (binsInOrder.flatMap fun c => (t.bin c).carried).count x =
      (binsInOrder.flatMap fun c => (s.bin c).carried).count x + [n].count x := by
    rw [count_binsInOrder, count_binsInOrder, Finset.sum_congr rfl fun c _ => hcount c, Finset.sum_add_distrib]
    simp
  have htracked : t.tracked.count x + [n].count x ≤ s.tracked.count x := by
    rw [hq]
    by_cases hx : x = n
    · have hzero : (s.tracked.filter fun y => y ≠ n).count n = 0 := List.count_eq_zero.2 (by simp)
      have hone := List.count_pos_iff.2 hn
      rw [hx, hzero]
      simpa using hone
    · have hle := (List.filter_sublist (p := fun y => y ≠ n) (l := s.tracked)).count_le x
      have hnone : [n].count x = 0 := List.count_eq_zero.2 (by simpa using hx)
      omega
  unfold State.storeNumbers
  rw [List.count_append, List.count_append, hsum]
  omega

theorem map_store_removeRecord (n : StoreNo) (q : List TrackRec) :
    (removeRecord n q).map (·.store) = (q.map (·.store)).filter fun x => x ≠ n := by
  rw [removeRecord, List.filter_map]
  rfl

theorem mem_carried_closed {g : Gate} {n : StoreNo} (h : n ∈ g.closed.carried) : n ∈ g.carried := by
  rw [Gate.mem_carried] at h ⊢
  rcases h with ⟨e, he, hn⟩ | ⟨e, he, hn⟩
  · exact .inr ⟨e, he, hn⟩
  · cases he

theorem carries_closeGate (s : State) (b : BinId) (e : GateEntry) : s.Carries (s.closeGate b e) := by
  have hgate : s.Carries (s.setGate b (s.gate b).closed) :=
    carries_setGate fun n hn => State.mem_carried_of_gate (mem_carried_closed hn)
  have hremoved : s.Carries ((s.setGate b (s.gate b).closed).setQueue (removeRecord e.store s.tracker.queue)) :=
    hgate.trans (changes_removeRecord (l := []) _ e.store).carries
  unfold State.closeGate
  dsimp only
  split
  · refine .trans ?_ (carries_floatRelease _ b)
    rcases handOver_stores (s := s) (n := e.store) with hnone | ⟨hone, hmem⟩
    · refine hremoved.trans (carries_setBin ?_)
      unfold BinRec.carried
      rw [List.map_append, hnone, List.append_nil]
    · refine carries_handedOver hmem (map_store_removeRecord e.store _) (b := b) ?_ (fun c hc => ?_) fun c n hn => ?_
      · rw [State.bin_setBin_self]
        unfold BinRec.carried
        rw [List.map_append, hone]
        change (((s.bin b).stack.map (·.store)) ++ ((s.bin b).inFlight.map (·.sheet.store) ++ [e.store]) ++
          ((s.bin b).questioned.map (·.sheet.store)).toList).Perm _
        rw [List.append_assoc, List.append_assoc, List.append_assoc]
        refine .trans (.append_left _ (List.perm_middle (l₂ := ((s.bin b).questioned.map (·.sheet.store)).toList))) ?_
        exact List.perm_middle
      · rw [State.bin_setBin_ne _ hc]
        rfl
      · exact hremoved.2 (State.mem_carried_of_gate (b := c) hn)
  · have hlost := (hremoved.trans (carries_bump _ .lostAtGateClose)).trans (carries_floatRelease _ b)
    exact .ite (hlost.trans (carries_searchRound _)) hlost

end Sys2Proof.Machine
end

section
/-! What each command keeps of the store numbers (R20), and the reset state against all invariants. -/

namespace Sys2Proof.Machine

set_option Elab.async false

open Sys2Proof

/-! ## The conveyor and the completion -/

theorem carries_gateCloseEvent (s : State) (b : BinId) : s.Carries (s.gateCloseEvent b) := by
  unfold State.gateCloseEvent
  split
  · exact .ite (carries_closeGate s b _) (.refl s)
  · exact .refl s

theorem carries_settlePosition (s : State) : s.Carries s.settlePosition := by
  unfold State.settlePosition
  dsimp only
  refine .trans ?_ (.foldl (fun t n => (changes_endOfLineEvent (l := []) t n).carries) _ _)
  refine .trans ?_ (.foldl carries_gateCloseEvent _ _)
  refine .trans ?_ (.foldl carries_gateOpenEvent _ _)
  refine .trans ?_ (.foldl (fun t n => (changes_expiryEvent (l := []) t n).carries) _ _)
  exact (changes_longObjectEvent (l := []) s).carries

theorem carries_clearConveyor (s : State) : s.Carries s.clearConveyor := by
  refine carries_of_parts (List.nil_sublist _) (fun b n hn => ?_) fun b => ?_
  · rw [show s.clearConveyor.gate b = {} from s.gate_emptyGates b] at hn
    cases hn
  · have hsite := congrArg (fun x : Site => x.bin.carried) (State.site_clearConveyor s b)
    dsimp only [State.site] at hsite
    rw [hsite, BinRec.carried_floatRelease]

theorem carries_roundIfInboundGone (s before : State) : s.Carries (s.roundIfInboundGone before) :=
  .ite (carries_searchRound s) (.refl s)

theorem carries_restartLine (s : State) : s.Carries s.restartLine := by
  unfold State.restartLine
  dsimp only
  refine .trans ?_ (carries_roundIfInboundGone _ _)
  refine .trans ?_ (changes_exchangeIfDue (l := [.swap]) _ (by simp)).carries
  refine .trans ?_ (carries_bumpBy _ _ _)
  exact carries_clearConveyor s

theorem carries_takeReversal (s : State) : s.Carries s.takeReversal :=
  ((carries_clearConveyor s).trans ((changes_bumpBy (l := []) _ _ _).trans (changes_raiseAll _ _ rfl)).carries).trans
    (carries_roundIfInboundGone _ s)

theorem carries_reversePulse (s : State) : s.Carries s.reversePulse := by
  unfold State.reversePulse State.reverseStep
  refine .ite ?_ (.refl s)
  exact .ite (.refl s) (.trans (t := s.setResidue (s.activeLayout.divide - 1)) (.refl s) (carries_takeReversal _))

theorem Gate.mem_carried_written {g : Gate} {n m : StoreNo} {p o c : Pos} (h : m ∈ (g.written n p o c).carried) :
    m = n ∨ m ∈ g.carried := by
  rw [Gate.mem_carried] at h ⊢
  unfold Gate.written at h
  split at h
  · rcases h with ⟨e, he, hm⟩ | ⟨e, he, hm⟩
    · cases he; exact .inl hm.symm
    · exact .inr (.inr ⟨e, he, hm⟩)
  · rcases h with ⟨e, he, hm⟩ | ⟨e, he, hm⟩
    · exact .inr (.inl ⟨e, he, hm⟩)
    · cases he; exact .inl hm.symm

theorem State.tracked_setDisposition (s : State) (n : StoreNo) (d : Disposition) :
    (s.setDisposition n d).tracked = s.tracked :=
  map_store_changeRecord n (f := fun r => { r with disp := d }) (fun _ => rfl) _

/-- A gate entry is written for a record of the tracking queue (R79). -/
theorem carries_routeSheet {s : State} {r : TrackRec} (hr : r.store ∈ s.tracked) (c : GradeClass) :
    s.Carries (s.routeSheet r c) := by
  have hdisp (d : Disposition) : s.Carries (s.setDisposition r.store d) := (changes_setDisposition (l := []) s r.store d).carries
  unfold State.routeSheet
  split
  · exact hdisp _
  · split
    · exact hdisp _
    · rename_i b _
      refine .trans ((hdisp (.bin b)).trans (carries_setGate fun n hn => ?_)) (carries_setBin ?_)
      · rcases Gate.mem_carried_written hn with rfl | hn
        · exact State.mem_carried.2 (.inl (by rwa [State.tracked_setDisposition]))
        · exact State.mem_carried_of_gate (b := b) hn
      · unfold BinRec.taking
        split <;> exact List.Subperm.refl _

theorem carries_completeRecord {s : State} {r : TrackRec} (hr : r ∈ s.tracker.queue) (g : Grading) (x : GradeResult) :
    s.Carries (s.completeRecord g r x) := by
  have hstore : r.store ∈ (s.setQueue (changeRecord g.store (TrackRec.withResult x) s.tracker.queue)).tracked := by
    have : (s.setQueue (changeRecord g.store (TrackRec.withResult x) s.tracker.queue)).tracked = s.tracked :=
      map_store_changeRecord g.store (f := TrackRec.withResult x) (fun _ => rfl) _
    rw [this]
    exact List.mem_map_of_mem hr
  unfold State.completeRecord
  refine .trans (changes_changeRecord (l := []) s g.store (f := TrackRec.withResult x) fun _ => rfl).carries ?_
  unfold State.settleDisposition
  split
  · exact carries_routeSheet hstore _
  · exact (changes_setDisposition (l := []) _ _ _).carries
  · exact .refl _

theorem carries_completionEvent (s : State) : s.Carries s.completionEvent := by
  have hrelease (t : State) : t.Carries t.releaseEngine :=
    (changes_releaseEngine (l := [.engine, .swap]) t (by simp) (by simp)).carries
  have hcount (x : GradeResult) : s.Carries (s.countGrade x) := (changes_countGrade (l := []) s x).carries
  have hqueue (x : GradeResult) : (s.countGrade x).tracker = s.tracker := by
    unfold State.countGrade
    split <;> rfl
  unfold State.completionEvent
  split
  · exact .refl s
  · dsimp only
    split
    · exact ((hcount _).trans (carries_send _ _ _)).trans (hrelease _)
    · rename_i g _ _ r hr
      have hmem : r ∈ (s.countGrade (s.gradingResult g)).tracker.queue := by
        rw [hqueue]
        exact List.mem_of_find?_eq_some hr
      exact (((hcount _).trans (carries_completeRecord hmem _ _)).trans (carries_send _ _ _)).trans (hrelease _)

/-! ## The Grade Store -/

theorem BinRec.carried_sublist {r r' : BinRec} (hs : r'.stack.Sublist r.stack) (hf : r'.inFlight.Sublist r.inFlight)
    (hq : r'.questioned = r.questioned ∨ r'.questioned = none) : r'.carried.Subperm r.carried := by
  refine List.Sublist.subperm (.append (.append (hs.map _) (hf.map _)) ?_)
  rcases hq with hq | hq
  · rw [hq]
  · rw [hq]
    exact List.nil_sublist _

theorem carries_land {s : State} {b : BinId} {x : InFlight} {rest : List InFlight}
    (h : (s.bin b).inFlight = x :: rest) : s.Carries (s.land b x rest) := by
  refine .trans ?_ (carries_bump _ _)
  refine carries_setBin ?_
  have heq : ({ s.bin b with inFlight := rest, stack := (s.bin b).stack ++ [s.stacked x.sheet] } : BinRec).carried =
      (s.bin b).carried := by
    unfold BinRec.carried
    rw [h]
    simp [State.stacked, List.append_assoc]
  rw [heq]

theorem carries_secondFailure (s : State) (b : BinId) : s.Carries (s.secondFailure b) := by
  refine .trans (.trans (.trans ?_ (carries_bumpBy _ _ _)) (carries_cancelGate _ b)) (carries_floatRelease _ b)
  exact carries_setBin (BinRec.carried_sublist (List.Sublist.refl _) (List.nil_sublist _) (.inr rfl))

theorem carries_strayCheck (s : State) (b : BinId) : s.Carries (s.strayCheck b) := by
  refine .trans (.trans ?_ (carries_cancelGate _ b)) (carries_floatRelease _ b)
  exact carries_setBin (List.Subperm.refl _)

theorem carries_setAside (s : State) (f : Feeder) : s.Carries (s.setAside f) :=
  .ite ((carries_setFeeder s f _).trans (carries_clearClaim _ f)) (.refl s)

theorem carries_revokeOne (s : State) (b : BinId) (f : Feeder) (n : StoreNo) : s.Carries (s.revokeOne b f n) :=
  ((carries_mark s b n none).trans (carries_setFeeder _ f _)).trans (carries_send _ _ _)

theorem carries_revokeReservations (s : State) (b : BinId) : s.Carries (s.revokeReservations b) := by
  unfold State.revokeReservations
  split
  · rename_i f _
    refine .trans (.trans (.foldl (fun t n => ?_) _ s) (carries_raise _ _ _)) (carries_setAside _ f)
    exact carries_revokeOne t b f n
  · exact .refl s

theorem carries_strayLanding (s : State) (b : BinId) : s.Carries (s.strayLanding b) := by
  have hcheck : s.Carries ((s.revokeReservations b).strayCheck b) :=
    (carries_revokeReservations s b).trans (carries_strayCheck _ b)
  unfold State.strayLanding
  dsimp only
  split
  · exact hcheck.trans (carries_searchRoundBy _ _)
  · exact hcheck.trans (carries_searchRound _)

theorem carries_countStray (s : State) : s.Carries s.countStray := .refl s

theorem carries_countMissed (s : State) : s.Carries s.countMissed := .refl s

theorem carries_landPulse (s : State) (b : BinId) : s.Carries (s.landPulse b) := by
  unfold State.landPulse
  split
  · exact .refl s
  · exact .refl s
  · rename_i hfl _ _
    exact (carries_land hfl).trans (carries_searchRound _)
  · exact ((carries_countStray s).trans (carries_secondFailure _ b)).trans (carries_searchRound _)
  · exact (carries_countStray s).trans (carries_strayLanding _ b)
  · exact (carries_countStray s).trans (carries_strayLanding _ b)

/-- A missed drop takes every record of its number from the in-flight list, and the place of the questioned record (R101). -/
theorem carries_missDrop {s : State} {b : BinId} {x : InFlight} (hx : x ∈ (s.bin b).inFlight) : s.Carries (s.missDrop b x) := by
  refine .trans ?_ (carries_cancelGate _ b)
  refine carries_setBin ?_
  have hfilter : ((s.bin b).inFlight.filter fun y => y.sheet.store ≠ x.sheet.store).map (·.sheet.store) =
      ((s.bin b).inFlight.map (·.sheet.store)).filter fun m => m ≠ x.sheet.store := by
    rw [List.filter_map]
    rfl
  have hone : (((s.bin b).inFlight.filter fun y => y.sheet.store ≠ x.sheet.store).map (·.sheet.store) ++
      [x.sheet.store]).Subperm ((s.bin b).inFlight.map (·.sheet.store)) := by
    rw [hfilter]
    refine List.Subperm.trans List.perm_append_comm.subperm ?_
    refine List.cons_subperm_of_not_mem_of_mem ?_ (List.mem_map_of_mem hx) List.filter_sublist.subperm
    simp
  unfold BinRec.carried
  rw [List.append_assoc]
  refine List.Subperm.trans ((List.Subperm.refl _).append hone) ?_
  exact (List.sublist_append_left _ _).subperm

theorem carries_windowExpiry (s : State) (b : BinId) (n : StoreNo) : s.Carries (s.windowExpiry b n) := by
  have hmiss (x : InFlight) (hx : x ∈ (s.bin b).inFlight) :
      s.Carries ((s.reachTime x.expiry).missDrop b x).countMissed.searchRound := by
    have hdrop : s.Carries ((s.reachTime x.expiry).missDrop b x) :=
      .trans (t := s.reachTime x.expiry) (.refl s) (carries_missDrop hx)
    exact .trans (hdrop.trans (carries_countMissed _)) (carries_searchRound _)
  unfold State.windowExpiry
  split
  · exact .refl s
  · rename_i x hfind
    have hx := List.mem_of_find?_eq_some hfind
    split
    · exact hmiss x hx
    · exact hmiss x hx
    · refine .trans ?_ (carries_searchRound _)
      exact .trans (t := (s.reachTime x.expiry).countMissed) (.refl s) (carries_secondFailure _ b)
    · exact .refl s
    · exact .refl s

theorem BinRec.carried_resumed (r : BinRec) : r.resumed.carried = r.carried := by
  unfold BinRec.resumed
  split <;> rfl

theorem carries_resolve (s : State) (b : BinId) (x : ResolveForm) : s.Carries (s.resolve b x) := by
  cases x
  case landed =>
    refine .trans ?_ (carries_searchRound _)
    unfold State.resolveLanded
    dsimp only
    split
    · exact .refl s
    · rename_i q hq
      refine .trans (carries_setBin ?_) (carries_bump _ _)
      rw [BinRec.carried_resumed]
      refine List.Perm.subperm ?_
      unfold BinRec.carried
      have hstack := congrArg (List.map (·.store)) ((s.bin b).stack.take_append_drop q.position)
      rw [List.map_append] at hstack
      rw [← hstack, hq, List.map_append, List.map_cons]
      simp only [State.stacked, Option.map_none, Option.toList_none, List.append_nil, Option.map_some, Option.toList_some,
        List.append_assoc, List.cons_append]
      refine .append_left _ ?_
      rw [← List.append_assoc]
      exact (List.perm_append_singleton _ _).symm.trans (by rw [List.append_assoc])
  case lost =>
    refine .trans (.trans (.trans ?_ (carries_bump _ _)) (carries_floatRelease _ b)) (carries_searchRound _)
    refine carries_setBin ?_
    rw [BinRec.carried_resumed]
    exact BinRec.carried_sublist (List.Sublist.refl _) (List.Sublist.refl _) (.inr rfl)
  case clear =>
    refine .trans ?_ (carries_searchRound _)
    refine carries_setBin ?_
    rw [BinRec.carried_resumed]
    exact List.Subperm.refl _

theorem carries_acceptBin {s t : State} (h : s.Carries t) (b : BinId) (lead : List Byte) :
    s.Carries (acceptBin b lead t s).2 := h.trans (changes_takeConditions (l := []) t s).carries

theorem carries_enterState (s : State) (b : BinId) (x : BinState) : s.Carries (s.enterState b x) := by
  refine .trans ?_ (carries_searchRound _)
  exact carries_setBin (List.Subperm.refl _)

theorem carries_lockBin (s : State) (b : BinId) : s.Carries (s.lockBin b) := by
  refine .trans ?_ (carries_searchRound _)
  refine .trans (.trans (.trans ?_ (carries_bumpBy _ _ _)) (carries_cancelGate _ b)) (carries_floatRelease _ b)
  refine carries_setBin (BinRec.carried_sublist (List.Sublist.refl _) (List.Sublist.refl _) ?_)
  dsimp only
  split
  · exact .inr rfl
  · exact .inl rfl

theorem carries_unloadTop (s : State) (b : BinId) (n : Nat) : s.Carries (s.unloadTop b n) := by
  refine .trans (.trans ?_ (carries_bumpBy _ _ _)) (carries_floatRelease _ b)
  exact carries_setBin (BinRec.carried_sublist (List.take_sublist _ _) (List.Sublist.refl _) (.inl rfl))

theorem carries_binResolveBody (p : Port) (l : List Byte) (s : State) : s.Carries (binResolveBody p l s).2 := by
  unfold binResolveBody
  split
  · exact .refl s
  · split
    · split
      · exact .refl s
      · split
        · exact .refl s
        · exact carries_acceptBin (carries_resolve s _ _) _ _
    · exact .refl s

theorem carries_drainBin (b : BinId) (s : State) : s.Carries (drainBin b s).2 := by
  unfold drainBin
  split
  · exact carries_acceptBin (carries_enterState s b _) _ _
  · exact carries_acceptBin (.refl s) _ _
  · exact .refl s
  · exact .refl s
  · exact .refl s

theorem carries_serviceBin (b : BinId) (s : State) : s.Carries (serviceBin b s).2 := by
  unfold serviceBin
  split
  · exact carries_acceptBin (carries_enterState s b _) _ _
  · exact carries_acceptBin (.refl s) _ _
  · split
    · exact .refl s
    · refine carries_acceptBin (.trans ?_ (carries_enterState _ b _)) _ _
      exact carries_setBin (List.Subperm.refl _)
  · exact .refl s
  · exact .refl s

theorem carries_lockBinBody (b : BinId) (s : State) : s.Carries (lockBinBody b s).2 := by
  unfold lockBinBody
  split
  · exact .refl s
  · exact carries_acceptBin (carries_lockBin s b) _ _

theorem carries_unloadBin (b : BinId) (s : State) : s.Carries (unloadBin b s).2 := by
  unfold unloadBin
  split
  · exact .refl s
  · exact carries_acceptBin (carries_unloadTop s b _) _ _

theorem carries_removeTop (n : Nat) (b : BinId) (s : State) : s.Carries (removeTop n b s).2 := by
  unfold removeTop
  split
  · exact .refl s
  · split
    · exact .refl s
    · exact carries_acceptBin (carries_unloadTop s b _) _ _

theorem carries_markLot (s : State) (lot : LotNo) (held : Bool) : s.Carries (s.markLot lot held) := by
  refine carries_mapBins fun r => ?_
  unfold BinRec.carried
  dsimp only
  rw [List.map_map]
  have hstore : r.stack.map ((·.store) ∘ fun x => if x.lot = lot then { x with held := held } else x) =
      r.stack.map (·.store) := List.map_congr_left fun x _ => by
    simp only [Function.comp]
    split <;> rfl
  rw [hstore]

theorem carries_lotHolds (s : State) (ls : List LotNo) : s.Carries { s with lotHolds := ls } := .refl s

theorem carries_lotHoldBody (p : Port) (l : List Byte) (s : State) : s.Carries (lotHoldBody p l s).2 := by
  unfold lotHoldBody
  split
  · exact .refl s
  · split
    · exact .refl s
    · split
      · exact .refl s
      · exact (carries_lotHolds s _).trans (carries_markLot _ _ _)

theorem carries_lotReleaseBody (p : Port) (l : List Byte) (s : State) : s.Carries (lotReleaseBody p l s).2 := by
  unfold lotReleaseBody
  split
  · exact .refl s
  · have hmarked : s.Carries ({ s with lotHolds := s.lotHolds.filter fun x => x ≠ lotAt l }.markLot (lotAt l) false) :=
      (carries_lotHolds s _).trans (carries_markLot _ _ _)
    dsimp only
    split
    · exact hmarked.trans (carries_searchRound _)
    · exact hmarked

/-! ## Calls -/

theorem carries_popTop (s : State) (b : BinId) : s.Carries (s.popTop b) :=
  carries_setBin (BinRec.carried_sublist (List.dropLast_sublist _) (List.Sublist.refl _) (.inl rfl))

theorem carries_pickDone (s : State) (f : Feeder) (b : BinId) (x : Sheet) : s.Carries (s.pickDone f b x) :=
  ((((carries_popTop s b).trans (carries_setFeeder _ f _)).trans (carries_bump _ _)).trans
    (carries_floatRelease _ b)).trans (carries_searchRound _)

theorem carries_pickFailed (s : State) (f : Feeder) (b : BinId) (x : Sheet) : s.Carries (s.pickFailed f b x) :=
  (((((carries_popTop s b).trans (carries_setFeeder _ f _)).trans (carries_bump _ _)).trans (carries_setAside _ f)).trans
    (carries_floatRelease _ b)).trans (carries_searchRoundBy _ f)

theorem carries_countShortage (s : State) (f : Feeder) : s.Carries (s.countShortage f) := .refl s

theorem carries_callTimeout (s : State) (f : Feeder) (e : PlyEntry) : s.Carries (s.callTimeout f e) := by
  have hended {r : FeederRec} {o : OutcomeRec} :
      s.Carries ((((s.clearClaim f).setFeeder f r).send (.feeder f) o).countShortage f) :=
    (((carries_clearClaim s f).trans (carries_setFeeder _ f _)).trans (carries_send _ _ _)).trans (carries_countShortage _ f)
  exact .ite (hended.trans (carries_searchRound _)) hended

theorem carries_patchTimeout (s : State) (f : Feeder) : s.Carries (s.patchTimeout f) :=
  ((((carries_clearClaim s f).trans (carries_setFeeder _ f _)).trans (carries_send _ _ _)).trans
    (carries_countShortage _ f)).trans (carries_searchRoundBy _ f)

theorem carries_now (s : State) (n : Nat) : s.Carries { s with now := n } := .refl s

theorem carries_waitExpiry (s : State) (f : Feeder) : s.Carries (s.waitExpiry f) := by
  unfold State.waitExpiry
  split
  · exact (carries_now s _).trans (.ite (carries_patchTimeout _ f) (carries_callTimeout _ f _))
  · exact .refl s

theorem carries_stopFeeder (s : State) (f : Feeder) : s.Carries (s.stopFeeder f) := by
  unfold State.stopFeeder
  dsimp only
  have hmarks : (s.clearClaim f).Carries ((s.clearClaim f).releaseMarks (s.feeder f).allGrants) :=
    .foldl (fun (t : State) (g : Grant) => carries_mark t g.bin g.store none) _ _
  refine .trans ?_ (carries_searchRound _)
  refine .trans (t := (((s.clearClaim f).releaseMarks (s.feeder f).allGrants).setFeeder f _).send (.feeder f) _) ?_
    (.ite (.refl _) (carries_send _ _ _))
  refine .trans ?_ (carries_send _ _ _)
  exact ((carries_clearClaim s f).trans hmarks).trans (carries_setFeeder _ f _)

theorem carries_plyCallBody (f : Feeder) (l : List Byte) (s : State) : s.Carries (plyCallBody f l s).2 := by
  refine withoutPayload_keeps (P := s.Carries) (.refl s) ?_ l
  dsimp only
  split
  · exact .refl s
  · split
    · exact .refl s
    · exact (carries_setFeeder s f _).trans (carries_searchRoundBy _ f)

theorem carries_patchCallBody (f : Feeder) (l : List Byte) (s : State) : s.Carries (patchCallBody f l s).2 := by
  unfold patchCallBody
  split
  · exact .refl s
  · split
    · exact .refl s
    · split
      · exact .refl s
      · exact ((carries_setAside s f).trans (carries_setFeeder _ f _)).trans (carries_searchRoundBy _ f)

theorem carries_enterRun (s : State) : s.Carries s.enterRun := by
  have hadjusted : s.Carries s.adjusted := by
    refine carries_of_bins rfl rfl fun b => ?_
    have hsite := congrArg (fun x : Site => x.bin.carried) (State.site_adjusted s b)
    dsimp only [State.site] at hsite
    obtain ⟨-, hstack, hfl, hq⟩ := (s.bin b).adjusted_fields s.pendingLayout.bins[b]
    rw [hsite]
    unfold BinRec.carried
    rw [hstack, hfl, hq]
  rw [State.enterRun_eq]
  exact (hadjusted.trans (.ite (carries_searchRound _) (.refl _))).trans (changes_takeConditions (l := []) _ s).carries

/-! ## The commands -/

/-- Every command but a leading edge and the device reset only moves numbers on or takes them away. -/
theorem carries_of_exec {c : Instr} {s t : State} (h : exec c s = .next t) (hedge : c ≠ .eyeLeadingEdge)
    (hreset : ∀ x, c ≠ .deviceReset x) : s.Carries t := by
  have hports {u v : State} (h' : Changes [] u v) (hu : s.Carries u) : s.Carries v := hu.trans h'.carries
  have hs : s.Carries s := .refl s
  have hfeeder {body : Feeder → List Byte → State → Reply × State} (hb : ∀ g l, s.Carries (body g l s).2) (p : Port)
      (l : List Byte) : s.Carries (feederBody body p l s).2 := by
    cases p
    case line => exact hs
    case feeder g => exact hb g l
  by_cases hc : .gates ∈ touched c ∨ .bins ∈ touched c ∨ .tracked ∈ touched c
  · cases c
    case eyeLeadingEdge => exact absurd rfl hedge
    case deviceReset x => exact absurd rfl (hreset x)
    case enterRun p f =>
      refine exec_request_keeps hports rfl h hs (withoutPayload_keeps hs ?_ _)
      split
      · exact hs
      · split
        · exact hs
        · exact carries_enterRun s
    case lineRestart p f =>
      refine exec_request_keeps hports rfl h hs (withoutPayload_keeps hs ?_ _)
      exact carries_restartLine s
    case binDrain p f => exact exec_request_keeps hports rfl h hs (binRequest_keeps hs (fun b => carries_drainBin b s) 1 _)
    case binService p f =>
      exact exec_request_keeps hports rfl h hs (binRequest_keeps hs (fun b => carries_serviceBin b s) 1 _)
    case binLock p f => exact exec_request_keeps hports rfl h hs (binRequest_keeps hs (fun b => carries_lockBinBody b s) 1 _)
    case binUnload p f => exact exec_request_keeps hports rfl h hs (binRequest_keeps hs (fun b => carries_unloadBin b s) 1 _)
    case binRemoveTop p f =>
      exact exec_request_keeps hports rfl h hs (binRequest_keeps hs (fun b => carries_removeTop _ b s) 2 _)
    case resolveLanded p f | resolveLost p f | resolveClear p f =>
      exact exec_request_keeps hports rfl h hs (carries_binResolveBody p _ s)
    case lotHold p f => exact exec_request_keeps hports rfl h hs (carries_lotHoldBody p _ s)
    case lotRelease p f => exact exec_request_keeps hports rfl h hs (carries_lotReleaseBody p _ s)
    case plyCall p f => exact exec_request_keeps hports rfl h hs (hfeeder (fun g l => carries_plyCallBody g l s) p _)
    case patchCall p f => exact exec_request_keeps hports rfl h hs (hfeeder (fun g l => carries_patchCallBody g l s) p _)
    case pickDone p f =>
      exact exec_request_keeps hports rfl h hs (hfeeder (fun g l => pickBody_keeps hs (carries_pickDone s g) l g) p _)
    case pickFailed p f =>
      exact exec_request_keeps hports rfl h hs (hfeeder (fun g l => pickBody_keeps hs (carries_pickFailed s g) l g) p _)
    case feederStop p f =>
      refine exec_request_keeps hports rfl h hs (hfeeder (fun g l => ?_) p _)
      refine withoutPayload_keeps (P := s.Carries) hs ?_ l
      exact carries_stopFeeder s g
    case armedSwapExchange =>
      cases h
      exact .ite ((carries_completionEvent s).trans (changes_exchangeIfDue (l := [.swap]) _ (by simp)).carries) hs
    case gradingCompletion => cases h; exact carries_completionEvent s
    case encPulse d =>
      cases d
      case forward =>
        obtain rfl : s.settlePosition.forwardPulse = t := by injection h
        exact (carries_settlePosition s).trans (changes_forwardPulse (l := [.pos, .travel]) _ (by simp) (by simp)).carries
      case reverse =>
        obtain rfl : s.settlePosition.reversePulse = t := by injection h
        exact (carries_settlePosition s).trans (carries_reversePulse _)
    case reversalFault =>
      cases h
      exact .ite ((carries_settlePosition s).trans (carries_reversePulse _)) hs
    case gateOpen b => cases h; exact carries_gateOpenEvent s b
    case gateClose b => cases h; exact carries_gateCloseEvent s b
    case landPulse b =>
      cases h
      exact (carries_landPulse s b).trans (changes_takeConditions (l := []) _ s).carries
    case windowExpiry b n =>
      cases h
      exact (carries_windowExpiry s b n).trans (changes_takeConditions (l := []) _ s).carries
    case waitExpiry f => cases h; exact carries_waitExpiry s f
    all_goals simp [touched] at hc
  · simp only [not_or] at hc
    obtain ⟨hg, hb, hq⟩ := hc
    exact Changes.carries (l := touched c) (fun x hx => same_of_exec h hx) hg hb hq

/-! ## The numbers stay apart -/

theorem State.StoreNumbersUnique.of_carries {s t : State} (hs : s.StoreNumbersUnique) (h : s.Carries t) :
    t.StoreNumbersUnique := by
  refine ⟨List.nodup_iff_count_le_one.2 fun n => ?_, fun n hn => hs.2 n (h.2 hn)⟩
  exact (h.1.count_le n).trans (List.nodup_iff_count_le_one.1 hs.1 n)

theorem Gate.length_carried (g : Gate) : g.carried.length = g.entries := by
  unfold Gate.carried Gate.entries
  cases g.lead <;> cases g.follow <;> rfl

theorem BinRec.length_carried (r : BinRec) :
    r.carried.length = r.stack.length + r.inFlight.length + bit r.questioned.isSome := by
  unfold BinRec.carried
  cases r.questioned <;> simp [bit, Nat.add_assoc]

theorem length_flatMap_le {α β : Type} {f : α → List β} {k : Nat} (l : List α) (h : ∀ a, (f a).length ≤ k) :
    (l.flatMap f).length ≤ l.length * k := by
  induction l with
  | nil => simp
  | cons a l ih =>
    have := h a
    rw [List.flatMap_cons, List.length_append, List.length_cons, Nat.succ_mul]
    omega

/-- The queue's 24 records and at most 200 numbers for the gate and for the record of each bin leave a number free. -/
theorem length_carried_lt {s : State} (hq : s.QueuesBounded) (hb : s.BinsBounded) : s.carried.length < 65535 := by
  obtain ⟨hqueue, -⟩ := hq
  have hbin (b : BinId) : (s.gate b).carried.length + (s.bin b).carried.length ≤ 200 := by
    obtain ⟨-, -, hsum⟩ := hb b
    unfold State.inbound at hsum
    rw [Gate.length_carried, BinRec.length_carried]
    omega
  have hgates := length_flatMap_le (f := fun b => (s.gate b).carried) (k := 200) binsInOrder fun b =>
    (Nat.le_add_right _ _).trans (hbin b)
  have hbins := length_flatMap_le (f := fun b => (s.bin b).carried) (k := 200) binsInOrder fun b =>
    (Nat.le_add_left _ _).trans (hbin b)
  have hcount : binsInOrder.length = 16 := rfl
  unfold State.carried
  rw [List.length_append, List.length_append, List.length_map]
  rw [hcount] at hgates hbins
  unfold Config.trackingQueueDepth at hqueue
  omega

theorem storeNumbersUnique_trackedEdge {s : State} (hs : s.StoreNumbersUnique) (hlen : s.carried.length < 65535) :
    s.trackedEdge.StoreNumbersUnique := by
  obtain ⟨hzero, hfree, -⟩ := nextStoreNumberIsFree s hlen
  obtain ⟨hnodup, hcarried⟩ := hs
  have htracked : s.trackedEdge.tracked = s.tracked ++ [s.nextStore] := List.map_append
  have hnot : s.nextStore ∉ s.storeNumbers := fun hin => by
    refine hfree (State.mem_carried.2 ?_)
    rcases List.mem_append.1 hin with h | h
    · exact .inl h
    · obtain ⟨b, -, h⟩ := List.mem_flatMap.1 h
      exact .inr (.inr ⟨b, h⟩)
  have hperm : s.trackedEdge.storeNumbers.Perm (s.nextStore :: s.storeNumbers) := by
    unfold State.storeNumbers
    rw [htracked, List.append_assoc]
    exact List.perm_middle
  refine ⟨hperm.nodup_iff.2 (List.nodup_cons.2 ⟨hnot, hnodup⟩), fun n hn => ?_⟩
  rcases State.mem_carried.1 hn with h | h | h
  · rw [htracked] at h
    rcases List.mem_append.1 h with h | h
    · exact hcarried n (State.mem_carried.2 (.inl h))
    · rw [List.mem_singleton.1 h]
      exact hzero
  · exact hcarried n (State.mem_carried.2 (.inr (.inl h)))
  · exact hcarried n (State.mem_carried.2 (.inr (.inr h)))

theorem storeNumbersUnique_of_empty {s : State} (hq : s.tracker.queue = []) (hg : ∀ b, s.gate b = {})
    (hb : ∀ b, s.bin b = {}) : s.StoreNumbersUnique := by
  have hnumbers : s.storeNumbers = [] := by
    unfold State.storeNumbers State.tracked
    rw [hq, List.map_nil, List.nil_append, List.flatMap_eq_nil_iff]
    intro b _
    rw [hb]
    rfl
  refine ⟨by rw [hnumbers]; exact List.nodup_nil, fun n hn => ?_⟩
  rcases State.mem_carried.1 hn with h | ⟨b, h⟩ | ⟨b, h⟩
  · rw [State.tracked, hq] at h; cases h
  · rw [hg] at h; cases h
  · rw [hb] at h; cases h

theorem storeNumbersUnique_of_exec {c : Instr} {s t : State} (h : exec c s = .next t) (hq : s.QueuesBounded)
    (hb : s.BinsBounded) (hs : s.StoreNumbersUnique) : t.StoreNumbersUnique := by
  by_cases hedge : c = .eyeLeadingEdge
  · subst hedge
    change execEyeLeadingEdge s = _ at h
    unfold execEyeLeadingEdge at h
    have huntracked : s.Carries s.untrackedEdge := (changes_untrackedEdge (l := []) s).carries
    split at h
    · split at h
      · cases h; exact hs.of_carries huntracked
      · split at h
        · cases h
          exact hs.of_carries (huntracked.trans (changes_raiseAll (l := []) _ _ rfl).carries)
        · cases h; exact storeNumbersUnique_trackedEdge hs (length_carried_lt hq hb)
    · cases h; exact hs
    · cases h; exact hs
  · by_cases hreset : ∀ x, c ≠ .deviceReset x
    · exact hs.of_carries (carries_of_exec h hedge hreset)
    · simp only [ne_eq, not_forall, not_not] at hreset
      obtain ⟨x, rfl⟩ := hreset
      cases h
      exact storeNumbersUnique_of_empty rfl (fun b => congrArg Site.gate (s.site_afterReset x b))
        fun b => congrArg Site.bin (s.site_afterReset x b)

/-- Settles O60: only a leading edge gives a number, and the bounds of the queue and of the bins leave one free. -/
theorem storeNumbersStayUnique : Obligations.StoreNumbersStayUnique := by
  intro s t hs hq hy hbins hb h
  have hall := step_keeps
    (P := fun s => s.QueuesBounded ∧ s.LayoutsSound ∧ s.BinsSound ∧ s.BinsBounded ∧ s.StoreNumbersUnique)
    (fun _ _ hs => hs) (fun _ _ hs => hs)
    (fun _ _ _ hexec ⟨hq, hy, hbins, hb, hs⟩ => ⟨queuesBounded_of_exec hexec hq, layoutsSound_of_exec hexec hy,
      binsSound_of_exec hexec hbins, binsBounded_of_exec hexec hy hbins hb, storeNumbersUnique_of_exec hexec hq hb hs⟩)
    h ⟨hq, hy, hbins, hb, hs⟩
  exact hall.2.2.2.2

/-! ## The reset state -/

theorem site_reset (b : BinId) : State.reset.site b = ⟨{}, {}⟩ :=
  (State.reset.site_afterReset ⟨false, false, false, false⟩ b)

/-- Settles O54. -/
theorem resetMeetsTheInvariants : Obligations.ResetMeetsTheInvariants := by
  have hgate (b : BinId) : State.reset.gate b = {} := congrArg Site.gate (site_reset b)
  have hbin (b : BinId) : State.reset.bin b = {} := congrArg Site.bin (site_reset b)
  have hbank : ({} : Bank).fault = none := by decide
  have hlanes : State.reset.LanesSound := fun i => by
    change LaneRec.Sound _ (Vector.replicate 8 ({} : LaneRec))[i]
    simp only [Fin.getElem_fin, Vector.getElem_replicate]
    exact LaneRec.sound_still _ rfl rfl nofun nofun (Nat.zero_le _)
  have hports : State.reset.PortsSound := fun p => by
    rcases p with _ | _ | _ <;> exact PortRec.sound_reset _ _
  have hcounters : State.reset.CountersBounded := fun k => by
    change (Vector.replicate 37 0)[k.index] ≤ _
    simp
  have hfits : State.reset.BinsBounded := fun b => by
    have hinbound : State.reset.inbound b = 0 := by
      unfold State.inbound
      rw [hgate, hbin]
      rfl
    rw [hbin, hinbound]
    exact ⟨by decide, by decide, by decide⟩
  refine ⟨⟨hbank, nofun⟩, nofun, fun _ => ⟨rfl, rfl, rfl⟩, ⟨.default, .default, nofun⟩, hlanes,
    ⟨Nat.one_pos, Nat.zero_le _⟩, hports, ⟨Nat.zero_le _, Nat.zero_le _, Nat.zero_le _, List.nodup_nil⟩, hcounters,
    fun b => ?_, fun b => ?_, fun b _ _ _ _ => ?_, hfits, fun f => ?_, fun b f hb => ?_,
    storeNumbersUnique_of_empty rfl hgate hbin⟩
  · rw [hgate]
    exact Gate.sound_empty
  · rw [hbin]
    exact BinRec.sound_off _ _
  · rw [hbin]
  · cases f <;> exact FeederRec.sound_reset
  · rw [hbin] at hb
    cases hb

end Sys2Proof.Machine
end

section
/-! The port's transaction and the bytes on it: the parser's way through a selection (R182, R188), the decoder of request
frames (R184, R191), the check byte (R186), and the values that device reset leaves (R181). -/

namespace Sys2Proof.Machine

set_option Elab.async false

open Sys2Proof

/-! ## The parser (R182, R188) -/

section Parser

variable {p : Port} {s : State}

theorem exec_selFall_of_deselected (h : (s.port p).parser = .deselected) :
    exec (.selFall p) s = .next (s.setParser p .request) := by
  change execSelFall p s = _
  rw [execSelFall, h]

theorem exec_replyReady_of_preparing {reply : List Byte} (h : (s.port p).parser = .preparing reply) :
    exec (.replyReady p) s = .next (s.setParser p (.replying reply)) := by
  change execReplyReady p s = _
  rw [execReplyReady, h]

theorem exec_replyCutOff_of_preparing {reply : List Byte} (h : (s.port p).parser = .preparing reply) :
    exec (.replyCutOff p) s = .next (s.setParser p .deselected) := by
  change execReplyCutOff p s = _
  rw [execReplyCutOff, h]

theorem exec_replyCutOff_of_replying {reply : List Byte} (h : (s.port p).parser = .replying reply) :
    exec (.replyCutOff p) s = .next (s.setParser p .deselected) := by
  change execReplyCutOff p s = _
  rw [execReplyCutOff, h]

theorem exec_replyCheckByteSent_of_replying {reply : List Byte} (h : (s.port p).parser = .replying reply) :
    exec (.replyCheckByteSent p) s = .next (s.setParser p .trailing) := by
  change execReplyCheckByteSent p s = _
  rw [execReplyCheckByteSent, h]

theorem exec_transactionEnd_of_trailing (h : (s.port p).parser = .trailing) :
    exec (.transactionEnd p) s = .next (s.setParser p .deselected) := by
  change execTransactionEnd p s = _
  rw [execTransactionEnd, h]

end Parser

theorem Parser.miso_replying (reply : List Byte) {k : Nat} (hk : k < reply.length) :
    (Parser.replying reply).miso k = reply[k]? := by
  simp [Parser.miso, hk]

/-- Settles O3: each state of the parser by the commands that leave it. -/
theorem selectionCycle : Obligations.SelectionCycle := by
  intro p s reply
  refine ⟨fun h => ⟨exec_selFall_of_deselected h, fun k => ?_⟩,
    fun h => ⟨exec_emptySelection_of_request h, fun k => ?_⟩,
    fun h => ⟨fun k => ?_, exec_replyReady_of_preparing h, exec_replyCutOff_of_preparing h⟩,
    fun h => ⟨fun k hk => ?_, exec_replyCheckByteSent_of_replying h, exec_replyCutOff_of_replying h⟩,
    fun h => ⟨exec_transactionEnd_of_trailing h, fun k => ?_⟩,
    fun h => ⟨exec_discardingRelease_of_discarding h, fun k => ?_⟩⟩
  case refine_4 => rw [h, Parser.miso_replying reply hk]
  all_goals
    rw [h]
    rfl

/-! ## The decoder (R184, R191) -/

/-- The bytes of a whole frame decode to what its code and form byte name. -/
theorem decodeFrame_frameBytes (p : Port) (code : Byte) {f : Frame} (hf : f.wf = true) :
    decodeFrame p (frameBytes code f) = some (requestCommand p code f) := by
  obtain ⟨length, payload, check⟩ := f
  have hlen : payload.length = length.toNat := by simpa [Frame.wf] using hf
  simp [decodeFrame, frameBytes, ← hlen]

theorem requestCommand_of_not_isRequestCode (p : Port) {code : Byte} (f : Frame) (h : isRequestCode code = false) :
    requestCommand p code f = .badRequest p code f := by
  unfold requestCommand
  split
  case h_38 => rfl
  all_goals exact absurd h (by decide)

/-- A request command the part can meet is the one that its code byte and its form byte name. -/
theorem requestCommand_of_wf {c : Instr} {p : Port} {code : Byte} {f : Frame} (hwf : c.wf = true)
    (hc : c.request? = some (p, code, f)) : f.wf = true ∧ requestCommand p code f = c := by
  cases c
  case badRequest p' code' f' =>
    cases hc
    simp only [Instr.wf, Bool.and_eq_true, Bool.not_eq_true'] at hwf
    exact ⟨hwf.1, requestCommand_of_not_isRequestCode p f hwf.2⟩
  case resolveLanded | resolveLost | resolveClear =>
    cases hc
    simp only [Instr.wf, Bool.and_eq_true, beq_iff_eq] at hwf
    exact ⟨hwf.1, hwf.2⟩
  all_goals cases hc <;> exact ⟨hwf, rfl⟩

/-- Settles O7. -/
theorem frameDecodesToItsCommand : Obligations.FrameDecodesToItsCommand := by
  intro c p code f hwf hc
  obtain ⟨hf, hcommand⟩ := requestCommand_of_wf hwf hc
  rw [decodeFrame_frameBytes p code hf, hcommand]

/-! ## The check byte (R186) -/

/-- The bit shifted out stands in bit 0 of what a shift leaves, and every other bit moves up one place. -/
theorem crcShift_injective : Function.Injective crcShift := by
  intro a b h
  have htop (r : Byte) : (crcShift r).getLsbD 0 = r.getLsbD 7 := by
    unfold crcShift
    split <;> simp_all
  have hsame : a.getLsbD 7 = b.getLsbD 7 := by rw [← htop, ← htop, h]
  have hshift : a <<< 1 = b <<< 1 := by
    unfold crcShift at h
    rw [hsame] at h
    split at h
    · exact (BitVec.xor_left_inj _).mp h
    · exact h
  refine BitVec.eq_of_getLsbD_eq fun i hi => ?_
  have hbit : (a <<< 1).getLsbD (i + 1) = (b <<< 1).getLsbD (i + 1) := by rw [hshift]
  by_cases hlast : i = 7
  · rw [hlast, hsame]
  · have hi' : i + 1 < 8 := by omega
    simpa [hi', BitVec.getLsbD_shiftLeft, -BitVec.getLsbD_eq_getElem] using hbit

theorem crcByte_left_injective (b : Byte) : Function.Injective (crcByte · b) := by
  intro r r' h
  simpa [crcByte, crcShift_injective.eq_iff] using h

theorem crcByte_right_injective (r : Byte) : Function.Injective (crcByte r) := by
  intro b b' h
  simpa [crcByte, crcShift_injective.eq_iff] using h

theorem foldl_crcByte_injective (l : List Byte) : Function.Injective fun r => l.foldl crcByte r := by
  induction l with
  | nil => exact fun _ _ h => h
  | cons b l ih => exact ih.comp (crcByte_left_injective b)

/-- Settles O8: two remainders that differ at the changed byte differ to the end. -/
theorem checkByteSeesOneChangedByte : Obligations.CheckByteSeesOneChangedByte := by
  intro before after a b hne h
  simp only [crc8, List.foldl_append, List.foldl_cons] at h
  exact hne (crcByte_right_injective _ (foldl_crcByte_injective after h))

/-! ## Device reset (R181) -/

/-- Settles O9. -/
theorem deviceResetValues : Obligations.DeviceResetValues := by
  intro x s
  refine ⟨s.afterReset x, exec_deviceReset x s, rfl, rfl, rfl, rfl, rfl, rfl, rfl, rfl, rfl, rfl, rfl, rfl, rfl, rfl,
    rfl, rfl, rfl, rfl, fun i => ?_, fun b => ?_, fun f => ?_, fun c => ?_, fun p => ?_, rfl, rfl, rfl, rfl⟩
  · exact Vector.getElem_replicate (a := ({} : LaneRec)) _
  · exact ⟨congrArg Site.gate (s.site_afterReset x b), congrArg Site.bin (s.site_afterReset x b)⟩
  · cases f <;> rfl
  · exact Vector.getElem_replicate (a := 0) _
  · rw [State.port_afterReset]
    exact ⟨rfl, rfl, rfl, rfl⟩

end Sys2Proof.Machine
end

section
/-! Byte fields read back from a payload, and the requests of a port's outcomes, flags and mask with CLEAR COUNTERS
(R197 to R210). -/

namespace Sys2Proof.Machine

set_option Elab.async false

open Sys2Proof

/-! ## Byte fields (spec/00 Conventions, Numbers in frames) -/

@[simp] theorem toNat_u8 (n : Nat) : (u8 n).toNat = n % 256 := by simp [u8]

@[simp] theorem byteAt_cons_zero (b : Byte) (l : List Byte) : byteAt (b :: l) 0 = b.toNat := rfl

@[simp] theorem byteAt_cons_succ (b : Byte) (l : List Byte) (i : Nat) : byteAt (b :: l) (i + 1) = byteAt l i := rfl

@[simp] theorem length_be16 (n : Nat) : (be16 n).length = 2 := rfl

@[simp] theorem length_be32 (n : Nat) : (be32 n).length = 4 := rfl

/-- The two bytes of a field, put together again. -/
@[simp] theorem join_bytes16 (n : Nat) : n / 256 % 256 * 256 + n % 256 = n % 65536 := by omega

@[simp] theorem join_bytes32 (n : Nat) :
    (n / 16777216 % 256 * 256 + n / 65536 % 256) * 65536 + n % 65536 = n % 4294967296 := by omega

@[simp] theorem nat16At_be16 (n : Nat) (l : List Byte) : nat16At (be16 n ++ l) 0 = n % 65536 := by
  simp [nat16At, be16]

@[simp] theorem nat16At_be16_nil (n : Nat) : nat16At (be16 n) 0 = n % 65536 := nat16At_be16 n []

theorem ofNat_nat16At_be16 (m : BitVec 16) : BitVec.ofNat 16 (nat16At (be16 m.toNat) 0) = m := by
  rw [nat16At_be16_nil, Nat.mod_eq_of_lt m.isLt, BitVec.ofNat_toNat, BitVec.setWidth_eq]

@[simp] theorem u8_toNat (b : Byte) : u8 b.toNat = b := by simp [u8]

theorem bit_eq_toNat (b : Bool) : bit b = b.toNat := by cases b <;> rfl

theorem bit_le_one (b : Bool) : bit b ≤ 1 := by cases b <;> decide

/-! ## Conditions and flags (R11, R104, R203) -/

theorem State.laneDown_iff (s : State) :
    s.laneDown = true ↔
      ∃ i : LaneId, i.val < s.activeLayout.laneCount ∧ (s.lanes[i].state = .lost ∨ s.lanes[i].state = .recovering) := by
  have hmem (i : LaneId) : i ∈ lanesInOrder := by revert i; decide
  have husable (x : LaneState) : x.usable = false ↔ x = .lost ∨ x = .recovering := by
    cases x <;> simp [LaneState.usable]
  simp [State.laneDown, hmem, husable]

theorem State.binCheck_iff (s : State) : s.binCheck = true ↔ ∃ b : BinId, (s.bin b).state = .check := by
  simp [State.binCheck, State.bin, mem_binsInOrder]

theorem State.binUncertain_iff (s : State) : s.binUncertain = true ↔ ∃ b : BinId, (s.bin b).uncertain = true := by
  simp [State.binUncertain, State.bin, mem_binsInOrder]

/-- A port record with the flags of a condition set, unseen, where the condition has risen. -/
def PortRec.raiseIf (r : PortRec) (g : Flag) (risen : Bool) : PortRec := if risen then r.raise g else r

theorem PortRec.raiseIf_eq (r : PortRec) (g : Flag) (risen : Bool) :
    r.raiseIf g risen = { r with flags := (r.raiseIf g risen).flags, seen := (r.raiseIf g risen).seen } := by
  cases risen <;> rfl

theorem PortRec.getLsbD_raiseIf_flags (r : PortRec) (g : Flag) (risen : Bool) (i : Nat) :
    (r.raiseIf g risen).flags.getLsbD i = (i == g.index && risen || r.flags.getLsbD i) := by
  cases risen with
  | false => simp [PortRec.raiseIf]
  | true => simpa [PortRec.raiseIf] using r.getLsbD_raise_flags g i

theorem PortRec.getLsbD_raiseIf_seen (r : PortRec) (g : Flag) (risen : Bool) (i : Nat) :
    (r.raiseIf g risen).seen.getLsbD i = (!(i == g.index && risen) && r.seen.getLsbD i) := by
  cases risen with
  | false => simp [PortRec.raiseIf]
  | true => simpa only [PortRec.raiseIf, if_pos, Bool.and_true, bne] using r.getLsbD_raise_seen g i

theorem State.port_raiseRisen (s : State) (g : Flag) (before after : Bool) (p : Port) :
    (s.raiseRisen g before after).port p = (s.port p).raiseIf g (after && !before) := by
  unfold State.raiseRisen PortRec.raiseIf
  split
  · exact State.port_raiseAll s p g
  · rfl

theorem State.raiseRisen_eq (s : State) (g : Flag) (before after : Bool) :
    s.raiseRisen g before after = { s with ports := (s.raiseRisen g before after).ports } := by
  unfold State.raiseRisen
  split <;> rfl

/-- Taking the conditions afresh changes the ports alone, at every port by the conditions that have risen. -/
theorem State.port_takeConditions (s before : State) (p : Port) :
    (s.takeConditions before).port p =
      (((s.port p).raiseIf .laneDown (s.laneDown && !before.laneDown)).raiseIf .binCheck
        (s.binCheck && !before.binCheck)).raiseIf .binUncertain (s.binUncertain && !before.binUncertain) := by
  simp only [State.takeConditions, State.port_raiseRisen]

theorem State.takeConditions_eq (s before : State) :
    s.takeConditions before = { s with ports := (s.takeConditions before).ports } := by
  rw [State.takeConditions, State.raiseRisen_eq, State.raiseRisen_eq (State.raiseRisen ..), State.raiseRisen_eq s]

/-- Each condition that has risen sets its flag, unseen, and every other flag and mark stays. -/
theorem State.takeConditions_port_bits (s before : State) (p : Port) :
    ∃ flags seen : BitVec 16,
      (s.takeConditions before).port p = { s.port p with flags := flags, seen := seen } ∧
      ∀ (i : Nat) (risen : Bool),
        risen = (i == 12 && s.laneDown && !before.laneDown || i == 13 && s.binCheck && !before.binCheck ||
          i == 14 && s.binUncertain && !before.binUncertain) →
        flags.getLsbD i = (risen || (s.port p).flags.getLsbD i) ∧
          seen.getLsbD i = (!risen && (s.port p).seen.getLsbD i) := by
  refine ⟨((s.takeConditions before).port p).flags, ((s.takeConditions before).port p).seen, ?_, fun i risen h => ?_⟩
  · rw [State.port_takeConditions, PortRec.raiseIf_eq, PortRec.raiseIf_eq (PortRec.raiseIf ..),
      PortRec.raiseIf_eq (s.port p)]
  · subst h
    simp only [State.port_takeConditions, PortRec.getLsbD_raiseIf_flags, PortRec.getLsbD_raiseIf_seen, Flag.index,
      Bool.and_assoc]
    refine ⟨?_, ?_⟩
    · ac_rfl
    · simp only [Bool.not_or]
      ac_rfl

/-! ## The requests of a port (R200, R204, R206) -/

section Requests

variable {p : Port} {f : Frame} {s : State}

theorem exec_fetchOutcome_refused (h : s.asks p 0x50 f) (hf : f.payload ≠ []) :
    exec (.fetchOutcome p f) s = .next (s.answer p ⟨.badArg, []⟩) :=
  exec_answer rfl h (show fetchOutcomeBody p f.payload s = refuse .badArg s from withoutPayload_cons hf _ _)

theorem exec_fetchOutcome_empty (h : s.asks p 0x50 f) (hf : f.payload = []) (ho : (s.port p).outcomes = []) :
    exec (.fetchOutcome p f) s = .next (s.answer p ⟨.ok, []⟩) := by
  refine exec_answer rfl h ?_
  change fetchOutcomeBody p f.payload s = _
  rw [hf, fetchOutcomeBody, withoutPayload_nil, ho]
  rfl

theorem exec_fetchOutcome_oldest (h : s.asks p 0x50 f) (hf : f.payload = []) {o : OutcomeRec} {rest : List OutcomeRec}
    (ho : (s.port p).outcomes = o :: rest) :
    exec (.fetchOutcome p f) s =
      .next ((s.setPort p { s.port p with outcomes := rest }).answer p ⟨.ok, o.bytes⟩) := by
  refine exec_answer rfl h ?_
  change fetchOutcomeBody p f.payload s = _
  rw [hf, fetchOutcomeBody, withoutPayload_nil, ho]

theorem exec_readFlags_refused (h : s.asks p 0x51 f) (hf : f.payload ≠ []) :
    exec (.readFlags p f) s = .next (s.answer p ⟨.badArg, []⟩) :=
  exec_answer rfl h (show readFlagsBody p f.payload s = refuse .badArg s from withoutPayload_cons hf _ _)

theorem exec_readFlags (h : s.asks p 0x51 f) (hf : f.payload = []) :
    exec (.readFlags p f) s =
      .next ((s.setPort p { s.port p with seen := (s.port p).seen ||| (s.port p).flags }).answer p
        ⟨.ok, be16 (s.port p).flags.toNat ++ be16 (s.port p).mask.toNat ++
          [u8 (bit s.laneDown + 2 * bit s.binCheck + 4 * bit s.binUncertain), u8 (s.port p).outcomes.length]⟩) := by
  refine exec_answer rfl h ?_
  change readFlagsBody p f.payload s = _
  rw [hf]
  rfl

theorem exec_setMask_refused (h : s.asks p 0x53 f) (hf : f.payload.length ≠ 2) :
    exec (.setMask p f) s = .next (s.answer p ⟨.badArg, []⟩) :=
  exec_answer rfl h (if_pos hf)

theorem exec_setMask (h : s.asks p 0x53 f) {m : BitVec 16} (hf : f.payload = be16 m.toNat) :
    exec (.setMask p f) s = .next ((s.setPort p { s.port p with mask := m }).answer p ⟨.ok, be16 m.toNat⟩) := by
  refine exec_answer rfl h ?_
  change setMaskBody p f.payload s = _
  have hlen : ¬ (be16 m.toNat).length ≠ 2 := by simp
  have hfield : nat16At (be16 m.toNat) 0 = m.toNat := by rw [nat16At_be16_nil, Nat.mod_eq_of_lt m.isLt]
  rw [hf, setMaskBody, if_neg hlen, hfield, BitVec.ofNat_toNat, BitVec.setWidth_eq]

theorem send_full_bits {o : OutcomeRec} (h : 8 ≤ (s.port p).outcomes.length) :
    ∃ flags seen : BitVec 16, s.send p o = s.setPort p { s.port p with flags := flags, seen := seen } ∧
      ∀ i : Nat, flags.getLsbD i = (i == 1 || (s.port p).flags.getLsbD i) ∧
        seen.getLsbD i = (i != 1 && (s.port p).seen.getLsbD i) :=
  ⟨_, _, State.send_full h o, fun i => ⟨PortRec.getLsbD_raise_flags _ .outcomeLost i, PortRec.getLsbD_raise_seen _ .outcomeLost i⟩⟩

theorem PortRec.attn_iff (r : PortRec) :
    r.attn = true ↔ r.outcomes ≠ [] ∨ ∃ i : Nat, r.flags.getLsbD i = true ∧ r.mask.getLsbD i = true := by
  have hbits : r.flags &&& r.mask ≠ 0 ↔ ∃ i : Nat, r.flags.getLsbD i = true ∧ r.mask.getLsbD i = true := by
    rw [← not_iff_not, not_not, not_exists]
    constructor
    · intro h i hi
      have := congrArg (BitVec.getLsbD · i) h
      simp [hi.1, hi.2] at this
    · intro h
      refine BitVec.eq_of_getLsbD_eq fun i _ => ?_
      rw [BitVec.getLsbD_and, BitVec.ofNat_eq_ofNat, BitVec.getLsbD_zero]
      exact Bool.eq_false_iff.2 fun hi => h i (Bool.and_eq_true_iff.1 hi)
  simp only [PortRec.attn, Bool.or_eq_true, Bool.not_eq_true', bne_iff_ne, hbits, List.isEmpty_eq_false_iff]

end Requests

/-! ## The layouts of outcome records (R197, R198) -/

theorem Disposition.code_lt (d : Disposition) : d.code < 256 := by
  cases d with
  | pending => decide
  | bin b => change 16 + b.val < 256; omega
  | runout c => cases c <;> decide

theorem GradeClass.code_lt (c : GradeClass) : c.code < 256 := by cases c <;> decide

theorem Reason.code_lt (r : Reason) : r.code < 256 := by cases r <;> decide

/-- Two marks in one byte, as bit 0 and bit 1. -/
theorem two_marks_mod (a b : Bool) : (bit a + 2 * bit b) % 256 = a.toNat + 2 * b.toNat := by cases a <;> cases b <;> rfl

theorem bit_mod (a : Bool) : bit a % 256 = a.toNat := by cases a <;> rfl

section Layouts

variable {l : List Byte}

theorem bytes_sheetDecided {lineId : LineId} {n : StoreNo} {d : Disposition} {x : GradeResult}
    (h : l = (OutcomeRec.sheetDecided lineId n d x).bytes) :
    l.length = 21 ∧ byteAt l 0 = 0x01 ∧ nat32At l 1 = lineId.toNat ∧ nat16At l 5 = n.toNat ∧ byteAt l 7 = d.code ∧
      byteAt l 8 = (match (generalizing := false) x.cls with | none => 0xFF | some c => c.code) ∧
      byteAt l 9 = (match (generalizing := false) x.width with | none => 0xFF | some w => w.code) ∧ nat16At l 10 = x.density % 65536 ∧
      nat16At l 12 = x.moistMax % 65536 ∧ nat16At l 14 = x.moistMean % 65536 ∧
      byteAt l 16 = x.degraded.toNat + 2 * x.capped.toNat ∧ byteAt l 17 = x.reason.code ∧
      byteAt l 18 = (match (generalizing := false) x.bank with | .zero => 0 | .one => 1) ∧ nat16At l 19 = x.serial.toNat := by
  have hcls : x.cls.elim 0xFF GradeClass.code % 256 = (match (generalizing := false) x.cls with | none => 0xFF | some c => c.code) := by
    rcases x.cls with _ | _ | _ <;> rfl
  have hwidth : x.width.elim 0xFF WidthClass.code % 256 = (match (generalizing := false) x.width with | none => 0xFF | some w => w.code) := by
    rcases x.width with _ | _ | _ <;> rfl
  have hbank : x.bank.code % 256 = (match (generalizing := false) x.bank with | .zero => 0 | .one => 1) := by cases x.bank <;> rfl
  subst h
  simp [OutcomeRec.bytes, be16, be32, nat16At, nat32At, hcls, hwidth, hbank, two_marks_mod, d.code_lt,
    x.reason.code_lt, lineId.isLt, n.isLt, x.serial.isLt]

theorem bytes_sheetUnreported {n : StoreNo} {lead : Pos} {eye : Nat}
    (h : l = (OutcomeRec.sheetUnreported n lead eye).bytes) :
    l.length = 7 ∧ byteAt l 0 = 0x02 ∧ nat16At l 1 = n.toNat ∧ nat16At l 3 = lead.toNat ∧
      nat16At l 5 = eye % 65536 := by
  subst h
  simp [OutcomeRec.bytes, be16, nat16At, n.isLt, lead.isLt]

theorem bytes_orphan {lineId : LineId} {n : Nat} (h : l = (OutcomeRec.orphan lineId n).bytes) :
    l.length = 7 ∧ byteAt l 0 = 0x03 ∧ nat32At l 1 = lineId.toNat ∧ nat16At l 5 = n % 65536 := by
  subst h
  simp [OutcomeRec.bytes, be16, be32, nat16At, nat32At, lineId.isLt]

theorem bytes_grant {n : StoreNo} {b : BinId} {c : GradeClass} {o : Origin} {again : Bool}
    (h : l = (OutcomeRec.grant n b c o again).bytes) :
    l.length = 9 ∧ byteAt l 0 = 0x10 ∧ nat16At l 1 = n.toNat ∧ byteAt l 3 = b.val + 1 ∧ byteAt l 4 = c.code ∧
      nat16At l 5 = o.recipe.toNat ∧ byteAt l 7 = o.ply % 256 ∧ byteAt l 8 = o.isPatch.toNat + 2 * again.toNat := by
  subst h
  simp [OutcomeRec.bytes, be16, nat16At, binNumber, two_marks_mod, c.code_lt, n.isLt, o.recipe.isLt]
  omega

theorem bytes_grantRevoked {n : StoreNo} {b : BinId} {o : Origin} (h : l = (OutcomeRec.grantRevoked n b o).bytes) :
    l.length = 8 ∧ byteAt l 0 = 0x11 ∧ nat16At l 1 = n.toNat ∧ byteAt l 3 = b.val + 1 ∧
      nat16At l 4 = o.recipe.toNat ∧ byteAt l 6 = o.ply % 256 ∧ byteAt l 7 = o.isPatch.toNat := by
  subst h
  simp [OutcomeRec.bytes, be16, nat16At, binNumber, bit_mod, n.isLt, o.recipe.isLt]
  omega

theorem bytes_callEnd {e : CallEnding} {patch again : Bool} {count : Nat} {n : RecipeNo} {ply : Nat}
    (h : l = (OutcomeRec.callEnd e patch again count n ply).bytes) :
    l.length = 7 ∧ byteAt l 0 = 0x12 ∧ byteAt l 1 = (match (generalizing := false) e with | .complete => 0 | .short => 1 | .stopped => 2) ∧
      byteAt l 2 = patch.toNat + 2 * again.toNat ∧ byteAt l 3 = count % 256 ∧ nat16At l 4 = n.toNat ∧
      byteAt l 6 = ply % 256 := by
  have hending : e.code % 256 = (match (generalizing := false) e with | .complete => 0 | .short => 1 | .stopped => 2) := by cases e <;> rfl
  subst h
  simp [OutcomeRec.bytes, be16, nat16At, hending, two_marks_mod, n.isLt]

theorem bytes_recipeConsumed {n : RecipeNo} {x : Followed} {left : Nat} {head : RecipeNo}
    (h : l = (OutcomeRec.recipeConsumed n x left head).bytes) :
    l.length = 7 ∧ byteAt l 0 = 0x13 ∧ nat16At l 1 = n.toNat ∧
      byteAt l 3 = (match (generalizing := false) x with | .next => 0 | .repeated => 1 | .empty => 2) ∧ byteAt l 4 = left % 256 ∧
      nat16At l 5 = head.toNat := by
  have hfollowed : x.code % 256 = (match (generalizing := false) x with | .next => 0 | .repeated => 1 | .empty => 2) := by cases x <;> rfl
  subst h
  simp [OutcomeRec.bytes, be16, nat16At, hfollowed, n.isLt, head.isLt]

end Layouts

/-- Settles O10. -/
theorem portRequests : Obligations.PortRequests := by
  refine ⟨fun p f s => ⟨fun h => ⟨exec_fetchOutcome_refused h, fun hf => ⟨exec_fetchOutcome_empty h hf,
      fun o rest => exec_fetchOutcome_oldest h hf⟩⟩,
    fun h => ⟨exec_readFlags_refused h, exec_readFlags h⟩, fun h => ⟨exec_setMask_refused h, fun m => exec_setMask h⟩,
    fun o => ⟨fun hroom => State.send_room hroom o, send_full_bits⟩, PortRec.attn_iff _, s.laneDown_iff, s.binCheck_iff,
    s.binUncertain_iff, fun before => ?_⟩,
    fun _ _ _ _ _ => bytes_sheetDecided, fun _ _ _ _ => bytes_sheetUnreported, fun _ _ _ => bytes_orphan,
    fun _ _ _ _ _ _ => bytes_grant, fun _ _ _ _ => bytes_grantRevoked, fun _ _ _ _ _ _ _ => bytes_callEnd,
    fun _ _ _ _ _ => bytes_recipeConsumed, fun _ _ => ⟨rfl, rfl, rfl⟩, rfl, rfl, rfl⟩
  obtain ⟨flags, seen, hport, hbits⟩ := s.takeConditions_port_bits before p
  exact ⟨flags, seen, hport, s.takeConditions_eq before, hbits⟩

/-! ## CLEAR FLAGS (R205) -/

theorem State.getLsbD_conditionWord (s : State) (i : Nat) :
    s.conditionWord.getLsbD i = (i == 12 && s.laneDown || i == 13 && s.binCheck || i == 14 && s.binUncertain) := by
  have hbit (c : Bool) (g : Flag) : (if c then g.word else 0).getLsbD i = (i == g.index && c) := by
    cases c
    · simp
    · simpa using g.getLsbD_word i
  simp only [State.conditionWord, BitVec.getLsbD_or, hbit, Flag.index]

/-- Clearing, flag by flag, where the seen marks stand on set flags. -/
theorem PortRec.getLsbD_clearSeen {p : Port} {r : PortRec} (h : r.Sound p) (m c : BitVec 16) (i : Nat) :
    (m.getLsbD i = true ∧ r.seen.getLsbD i = true →
      (r.clearSeen m c).seen.getLsbD i = false ∧ (r.clearSeen m c).flags.getLsbD i = c.getLsbD i) ∧
    (¬(m.getLsbD i = true ∧ r.seen.getLsbD i = true) →
      (r.clearSeen m c).seen.getLsbD i = r.seen.getLsbD i ∧ (r.clearSeen m c).flags.getLsbD i = r.flags.getLsbD i) := by
  obtain ⟨-, hzero, -⟩ := h
  have hseen := (seen_and_not_flags_eq_zero _ _).1 hzero i
  by_cases hi : i < 16
  · simp only [PortRec.clearSeen, BitVec.getLsbD_or, BitVec.getLsbD_and, BitVec.getLsbD_not, hi, decide_true]
    cases m.getLsbD i <;> cases hs : r.seen.getLsbD i <;> simp_all
  · have hge (x : BitVec 16) : x.getLsbD i = false := BitVec.getLsbD_of_ge x i (Nat.not_lt.1 hi)
    simp [hge]

/-- Settles O11. -/
theorem clearFlagsRemovesSeenFlags : Obligations.ClearFlagsRemovesSeenFlags := by
  intro p f s h
  refine ⟨fun hf => exec_answer rfl h (if_pos hf), fun m hf hs => ?_⟩
  refine ⟨(s.port p).clearSeen m s.conditionWord, exec_answer rfl h ?_, rfl, rfl, rfl, fun i => ?_⟩
  · change clearFlagsBody p f.payload s = _
    have hlen : ¬ (be16 m.toNat).length ≠ 2 := by simp
    rw [hf, clearFlagsBody, if_neg hlen, ofNat_nat16At_be16]
  · rw [← s.getLsbD_conditionWord]
    exact PortRec.getLsbD_clearSeen hs m s.conditionWord i

end Sys2Proof.Machine
end

section
/-! CLEAR COUNTERS (R210). -/

namespace Sys2Proof.Machine

set_option Elab.async false

open Sys2Proof

/-! ## Counters set to 0 -/

theorem State.counter_zero (s : State) (c k : Counter) : (s.zero c).counter k = if k = c then 0 else s.counter k := by
  have hindex : c.index = k.index ↔ k = c := Counter.index_injective.eq_iff.trans eq_comm
  unfold State.counter State.zero
  simp only [Fin.getElem_fin, Vector.getElem_set, ← Fin.ext_iff, hindex]

theorem State.counter_foldl_zero (cs : List Counter) (s : State) (k : Counter) :
    (cs.foldl State.zero s).counter k = if k ∈ cs then 0 else s.counter k := by
  induction cs generalizing s with
  | nil => rfl
  | cons c cs ih =>
    rw [List.foldl_cons, ih, State.counter_zero]
    by_cases hc : k = c <;> by_cases hcs : k ∈ cs <;> simp [hc, hcs]

theorem State.counter_zeroGroup (m : Nat) (s : State) (g : Nat) (k : Counter) :
    (s.zeroGroup m g).counter k = if m.testBit g ∧ k ∈ counterGroup g then 0 else s.counter k := by
  unfold State.zeroGroup
  split <;> simp_all [State.counter_foldl_zero]

theorem State.counter_foldl_zeroGroup (m : Nat) (gs : List Nat) (s : State) (k : Counter) :
    (gs.foldl (State.zeroGroup m) s).counter k =
      if ∃ g ∈ gs, m.testBit g ∧ k ∈ counterGroup g then 0 else s.counter k := by
  induction gs generalizing s with
  | nil => simp
  | cons g gs ih =>
    rw [List.foldl_cons, ih, State.counter_zeroGroup]
    by_cases hg : m.testBit g ∧ k ∈ counterGroup g <;>
      by_cases hgs : ∃ g ∈ gs, m.testBit g ∧ k ∈ counterGroup g <;> simp [hg, hgs]

/-- No counter stands in two groups. -/
theorem eq_of_mem_counterGroup {g g' : Nat} (hg : g < 5) (hg' : g' < 5) {c : Counter} (h : c ∈ counterGroup g)
    (h' : c ∈ counterGroup g') : g = g' := by
  have hall : ∀ g < 5, ∀ g' < 5, ∀ c ∈ counterGroup g, c ∈ counterGroup g' → g = g' := by decide
  exact hall g hg g' hg' c h h'

/-! ## Nothing but counters -/

theorem State.foldl_zero_eq (cs : List Counter) (s : State) :
    cs.foldl State.zero s = { s with counters := (cs.foldl State.zero s).counters } := by
  induction cs generalizing s with
  | nil => rfl
  | cons c cs ih => exact ih (s.zero c)

theorem State.zeroGroup_eq (m : Nat) (s : State) (g : Nat) :
    s.zeroGroup m g = { s with counters := (s.zeroGroup m g).counters } := by
  unfold State.zeroGroup
  split
  · exact s.foldl_zero_eq _
  · rfl

theorem State.foldl_zeroGroup_eq (m : Nat) (gs : List Nat) (s : State) :
    gs.foldl (State.zeroGroup m) s = { s with counters := (gs.foldl (State.zeroGroup m) s).counters } := by
  induction gs generalizing s with
  | nil => rfl
  | cons g gs ih =>
    rw [List.foldl_cons, ih (s.zeroGroup m g), s.zeroGroup_eq m g]

/-- What CLEAR COUNTERS leaves for a mask. -/
def State.clearedCounters (s : State) (m : Byte) : State :=
  if m.getLsbD 5 then ([0, 1, 2, 3, 4].foldl (State.zeroGroup m.toNat) s).zeroLaneErrors
  else [0, 1, 2, 3, 4].foldl (State.zeroGroup m.toNat) s

theorem State.clearedCounters_eq (s : State) (m : Byte) :
    s.clearedCounters m = { s with counters := (s.clearedCounters m).counters, lanes := (s.clearedCounters m).lanes } := by
  unfold State.clearedCounters
  rw [s.foldl_zeroGroup_eq]
  split <;> rfl

theorem State.counter_clearedCounters (s : State) (m : Byte) {g : Nat} (hg : g < 5) {c : Counter}
    (hc : c ∈ counterGroup g) : (s.clearedCounters m).counter c = if m.getLsbD g then 0 else s.counter c := by
  have hfold : (s.clearedCounters m).counter c = ([0, 1, 2, 3, 4].foldl (State.zeroGroup m.toNat) s).counter c := by
    unfold State.clearedCounters
    split <;> rfl
  rw [hfold, State.counter_foldl_zeroGroup]
  congr 1
  refine propext ⟨?_, fun h => ⟨g, ?_, h, hc⟩⟩
  · rintro ⟨g', hg', hbit, hc'⟩
    rwa [eq_of_mem_counterGroup hg (by simp at hg'; omega) hc hc']
  · simp
    omega

theorem State.lanes_clearedCounters (s : State) (m : Byte) (i : LaneId) :
    (s.clearedCounters m).lanes[i] = if m.getLsbD 5 then { s.lanes[i] with errors := 0 } else s.lanes[i] := by
  have hlanes : ([0, 1, 2, 3, 4].foldl (State.zeroGroup m.toNat) s).lanes = s.lanes := by rw [s.foldl_zeroGroup_eq]
  unfold State.clearedCounters
  split
  · rw [State.zeroLaneErrors, tabulateLanes_getElem, hlanes]
  · exact congrArg (·[i]) hlanes

/-- Settles O12. -/
theorem clearCountersClearsNamedGroups : Obligations.ClearCountersClearsNamedGroups := by
  intro p f s h
  refine ⟨fun hf => exec_answer rfl h (if_pos ?_), fun m hf hm => ⟨s.clearedCounters m, exec_answer rfl h ?_,
    s.clearedCounters_eq m, fun g hg c hc => s.counter_clearedCounters m hg hc, s.lanes_clearedCounters m⟩⟩
  · rcases hf with hlen | ⟨m, hm, hbig⟩
    · exact .inl hlen
    · rw [hm]
      exact .inr hbig
  · change clearCountersBody p f.payload s = _
    have hok : ¬ (([m] : List Byte).length ≠ 1 ∨ 63 < byteAt [m] 0) := by simpa using hm
    rw [hf, clearCountersBody, if_neg hok]
    simp [State.clearedCounters, BitVec.testBit_toNat]

end Sys2Proof.Machine
end

section
/-! What every request answers (R185, R190): a refusal leaves the state as it was, and no payload is longer than 120
bytes. Both are read off in one pass over the requests. -/

namespace Sys2Proof.Machine

set_option Elab.async false

open Sys2Proof

/-! ## The lengths of the layouts -/

@[simp] theorem Sheet.length_bytes (x : Sheet) : x.bytes.length = 14 := rfl

@[simp] theorem TrackRec.length_bytes (r : TrackRec) : r.bytes.length = 16 := rfl

@[simp] theorem LaneRec.length_bytes (r : LaneRec) : r.bytes.length = 3 := rfl

@[simp] theorem PlySpec.length_bytes (sp : PlySpec) : sp.bytes.length = 6 := rfl

@[simp] theorem State.length_grantBytes (s : State) (g : Grant) : (s.grantBytes g).length = 5 := rfl

@[simp] theorem State.length_summary (s : State) (b : BinId) : (s.summary b).length = 7 := by
  unfold State.summary
  dsimp only
  split <;> rfl

/-- The length of a run of records that are all `n` bytes long. -/
theorem length_flatMap_of_length {α : Type} {g : α → List Byte} {n : Nat} (h : ∀ a, (g a).length = n) (l : List α) :
    (l.flatMap g).length = n * l.length := by
  simp [List.length_flatMap, h, Nat.mul_comm]

@[simp] theorem Recipe.length_bytes (r : Recipe) : r.bytes.length = 3 + 6 * r.plies.length := by
  rw [Recipe.bytes, List.length_append, length_flatMap_of_length PlySpec.length_bytes]
  rfl

theorem OutcomeRec.length_bytes_le (o : OutcomeRec) : o.bytes.length ≤ 21 := by
  cases o <;> exact of_decide_eq_true rfl

theorem Bank.length_groupBytes_le (b : Bank) (g : Nat) : (b.groupBytes g).length ≤ 11 := by
  unfold Bank.groupBytes
  split
  · exact of_decide_eq_true rfl
  · split
    · simp
    · exact of_decide_eq_true rfl

theorem Layout.length_groupBytes_le (y : Layout) (g : Nat) : (y.groupBytes g).length ≤ 17 := by
  unfold Layout.groupBytes
  split <;> exact of_decide_eq_true rfl

theorem length_counterGroup_le (g : Nat) : (counterGroup g).length ≤ 10 := by
  unfold counterGroup
  split <;> decide

theorem length_binsOfMask_le (m : Nat) : (binsOfMask m).length ≤ 16 := List.length_filter_le _ _

theorem State.length_callStatus (s : State) (f : Feeder) :
    (s.callStatus f).length = 16 + 5 * (s.feeder f).allGrants.length := by
  simp only [State.callStatus, List.length_append, length_flatMap_of_length s.length_grantBytes, length_be16,
    List.length_cons, List.length_nil, Nat.zero_add, Nat.reduceAdd]

theorem FeederRec.CallSound.length_allGrants_le {r : FeederRec} (h : r.CallSound) : r.allGrants.length ≤ 5 := by
  have hpatch : r.patch.grant.toList.length ≤ 1 := by cases r.patch <;> simp [PatchSlot.grant]
  obtain ⟨-, -, hplies, -⟩ := h
  rw [FeederRec.allGrants, List.length_append]
  omega

/-! ## The rules of an answer -/

/-- What an answer to a request with a code on a port keeps to: a refusal leaves the state as it was, but for the counter of
a refused SHEET REPORT and the flag of a RECIPE LOAD refused FULL; and its payload fits the length byte. -/
structure AnswerRules (p : Port) (code : Byte) (s : State) (x : Reply × State) : Prop where
  refused : x.1.status ≠ .ok → x.1.status ≠ .clamped →
    x.2 = s ∨ code = 0x01 ∧ x.2 = s.bump .reportsRefused ∨
      code = 0x40 ∧ x.1.status = .full ∧ x.2 = s.raise p .recipeOverflow
  fits : s.QueuesBounded → s.FeedersSound → x.1.payload.length ≤ 120

section Rules

variable {p : Port} {code : Byte} {s t : State} {l : List Byte} {r : Reply}

theorem AnswerRules.of_same (h : s.QueuesBounded → s.FeedersSound → r.payload.length ≤ 120) : AnswerRules p code s (r, s) :=
  ⟨fun _ _ => .inl rfl, h⟩

theorem AnswerRules.refuse (st : Status) : AnswerRules p code s (refuse st s) := .of_same fun _ _ => Nat.zero_le _

theorem AnswerRules.of_ok (h : l.length ≤ 120) : AnswerRules p code s (⟨.ok, l⟩, t) :=
  ⟨fun hok => absurd rfl hok, fun _ _ => h⟩

/-- An accepted request whose payload says whether a value was clamped. -/
theorem AnswerRules.of_clamp {c : Prop} [Decidable c] (h : l.length ≤ 120) :
    AnswerRules p code s (⟨if c then .ok else .clamped, l⟩, t) := by
  refine ⟨fun hok hclamped => ?_, fun _ _ => h⟩
  dsimp only at hok hclamped
  split at hok
  · exact absurd rfl hok
  · simp_all

theorem AnswerRules.withoutPayload {body : State → Reply × State} (h : AnswerRules p code s (body s)) :
    AnswerRules p code s (withoutPayload l body s) := by
  unfold Machine.withoutPayload
  split
  · exact h
  · exact .refuse _

theorem AnswerRules.feederBody {body : Feeder → List Byte → State → Reply × State}
    (h : ∀ g, p = .feeder g → AnswerRules p code s (body g l s)) : AnswerRules p code s (feederBody body p l s) := by
  cases p with
  | line => exact .of_same fun _ _ => Nat.zero_le _
  | feeder g => exact h g rfl

theorem AnswerRules.binRequest {n : Nat} {body : BinId → State → Reply × State}
    (h : ∀ b, AnswerRules p code s (body b s)) : AnswerRules p code s (binRequest n body l s) := by
  unfold Machine.binRequest
  split
  · exact .refuse _
  · split
    · exact .refuse _
    · split
      · exact .refuse _
      · exact h _

theorem AnswerRules.acceptBin {b : BinId} {lead : List Byte} (h : lead.length ≤ 1) :
    AnswerRules p code s (acceptBin b lead t s) := by
  refine .of_ok ?_
  rw [List.length_append, State.length_summary]
  omega

theorem AnswerRules.pickBody {f : Feeder} {accept : BinId → Sheet → State} :
    AnswerRules p code s (pickBody l f s accept) := by
  unfold Machine.pickBody
  split
  · exact .refuse _
  · dsimp only
    split
    · exact .refuse _
    · split
      · exact .refuse _
      · split
        · exact .refuse _
        · exact .of_ok (of_decide_eq_true rfl)

/-! ## The answers of spec/01 to spec/04 and spec/09 -/

theorem answerRules_takeReport : AnswerRules p 0x01 s (takeReport p l s) := by
  have hrefused (st : Status) : AnswerRules p 0x01 s (refuseReport st s) :=
    ⟨fun _ _ => .inr (.inl ⟨rfl, rfl⟩), fun _ _ => Nat.zero_le _⟩
  unfold takeReport
  split
  · exact hrefused _
  · split
    · exact hrefused _
    · split
      · exact hrefused _
      · split
        · exact hrefused _
        · exact .of_clamp (of_decide_eq_true rfl)

theorem answerRules_readTracking : AnswerRules p code s (readTrackingBody p l s) := by
  unfold readTrackingBody
  split
  · exact .refuse _
  · refine .of_ok ?_
    simp only [List.length_append, List.length_cons, List.length_nil, length_flatMap_of_length TrackRec.length_bytes,
      List.length_take, Config.trackingReadMax]
    omega

theorem answerRules_lineRestart : AnswerRules p code s (lineRestartBody p l s) := by
  refine .withoutPayload (.of_ok ?_)
  exact of_decide_eq_true rfl

theorem answerRules_readLanes : AnswerRules p code s (readLanesBody p l s) := by
  refine .withoutPayload (.of_ok ?_)
  rw [List.length_cons, length_flatMap_of_length fun i => (s.lanes[i]).length_bytes]
  decide

theorem answerRules_ruleWrite : AnswerRules p code s (ruleWriteBody p l s) := by
  unfold ruleWriteBody
  split
  · exact .refuse _
  · split
    · exact .refuse _
    · split
      · exact .refuse _
      · refine .of_clamp ?_
        simp only [List.length_cons]
        exact (Nat.add_le_add_right (Bank.length_groupBytes_le _ _) 2).trans (by decide)

theorem answerRules_ruleRead : AnswerRules p code s (ruleReadBody p l s) := by
  unfold ruleReadBody
  split
  · split
    · refine .of_ok ?_
      simp only [List.length_append, List.length_cons, List.length_nil, length_be16]
      exact (Nat.add_le_add_left (Bank.length_groupBytes_le _ _) 6).trans (by decide)
    · exact .refuse _
  · exact .refuse _

theorem answerRules_ruleSwap : AnswerRules p code s (ruleSwapBody p l s) := by
  refine .withoutPayload ?_
  dsimp only
  split
  · exact .refuse _
  · split
    · exact .of_same fun _ _ => of_decide_eq_true rfl
    · exact .of_ok (of_decide_eq_true rfl)

theorem answerRules_layoutWrite : AnswerRules p code s (layoutWriteBody p l s) := by
  unfold layoutWriteBody
  split
  · exact .refuse _
  · split
    · exact .refuse _
    · split
      · exact .refuse _
      · refine .of_clamp ?_
        rw [List.length_cons]
        exact (Nat.add_le_add_right (Layout.length_groupBytes_le _ _) 1).trans (by decide)

theorem answerRules_layoutRead : AnswerRules p code s (layoutReadBody p l s) := by
  unfold layoutReadBody
  split
  · exact .refuse _
  · refine .of_ok ?_
    simp only [List.length_append, List.length_cons, List.length_nil]
    exact (Nat.add_le_add_left (Layout.length_groupBytes_le _ _) 3).trans (by decide)

theorem answerRules_enterRun : AnswerRules p code s (enterRunBody p l s) := by
  refine .withoutPayload ?_
  split
  · exact .refuse _
  · split
    · exact .of_same fun _ _ => of_decide_eq_true rfl
    · exact .of_ok (of_decide_eq_true rfl)

theorem answerRules_enterSetup : AnswerRules p code s (enterSetupBody p l s) := by
  refine .withoutPayload ?_
  split
  · exact .of_ok (Nat.zero_le _)
  · split
    · exact .of_ok (Nat.zero_le _)
    · exact .refuse _

/-! ## The answers of the Grade Store -/

theorem answerRules_binRead : AnswerRules p code s (binReadBody p l s) := by
  unfold binReadBody
  split
  · exact .refuse _
  · refine .of_ok ?_
    rw [length_flatMap_of_length s.length_summary]
    exact (Nat.mul_le_mul_left 7 (length_binsOfMask_le _)).trans (by decide)

theorem answerRules_stackRead : AnswerRules p code s (stackReadBody p l s) := by
  unfold stackReadBody
  split
  · exact .refuse _
  · split
    · exact .refuse _
    · refine .of_ok ?_
      simp only [BinRec.stackBytes, List.length_append, List.length_cons, List.length_nil, length_be16,
        length_flatMap_of_length Sheet.length_bytes, List.length_take]
      omega

theorem answerRules_drainBin (b : BinId) : AnswerRules p code s (drainBin b s) := by
  unfold drainBin
  split
  case h_1 | h_2 => exact .acceptBin (Nat.zero_le _)
  all_goals exact .refuse _

theorem answerRules_serviceBin (b : BinId) : AnswerRules p code s (serviceBin b s) := by
  unfold serviceBin
  split
  case h_1 | h_2 => exact .acceptBin (Nat.zero_le _)
  case h_3 =>
    split
    · exact .refuse _
    · exact .acceptBin (Nat.zero_le _)
  all_goals exact .refuse _

theorem answerRules_lockBin (b : BinId) : AnswerRules p code s (lockBinBody b s) := by
  unfold lockBinBody
  split
  · exact .refuse _
  · exact .acceptBin (Nat.zero_le _)

theorem answerRules_unloadBin (b : BinId) : AnswerRules p code s (unloadBin b s) := by
  unfold unloadBin
  split
  · exact .refuse _
  · exact .acceptBin (Nat.le_refl _)

theorem answerRules_removeTop (n : Nat) (b : BinId) : AnswerRules p code s (removeTop n b s) := by
  unfold removeTop
  split
  · exact .refuse _
  · split
    · exact .refuse _
    · exact .acceptBin (Nat.zero_le _)

theorem answerRules_binResolve : AnswerRules p code s (binResolveBody p l s) := by
  unfold binResolveBody
  split
  · exact .refuse _
  · split
    · split
      · exact .refuse _
      · split
        · exact .refuse _
        · exact .acceptBin (Nat.zero_le _)
    · exact .refuse _

theorem answerRules_lotHold : AnswerRules p code s (lotHoldBody p l s) := by
  unfold lotHoldBody
  split
  · exact .refuse _
  · split
    · exact .of_ok (of_decide_eq_true rfl)
    · split
      · exact .refuse _
      · exact .of_ok (of_decide_eq_true rfl)

theorem answerRules_lotRelease : AnswerRules p code s (lotReleaseBody p l s) := by
  unfold lotReleaseBody
  split
  · exact .refuse _
  · exact .of_ok (of_decide_eq_true rfl)

theorem answerRules_lotList : AnswerRules p code s (lotListBody p l s) := by
  refine .withoutPayload (.of_same fun hq _ => ?_)
  obtain ⟨-, -, hholds, -⟩ := hq
  rw [List.length_cons, length_flatMap_of_length (g := fun x : LotNo => be16 x.toNat) fun x => length_be16 _]
  simp only [Config.lotHoldMax] at hholds
  omega

/-! ## The answers of recipes and calls -/

theorem answerRules_recipeLoad (f : Feeder) (hp : p = .feeder f) : AnswerRules p 0x40 s (recipeLoadBody f l s) := by
  subst hp
  unfold recipeLoadBody
  split
  · exact .refuse _
  · dsimp only
    split
    · exact ⟨fun _ _ => .inr (.inr ⟨rfl, rfl, rfl⟩), fun _ _ => Nat.zero_le _⟩
    · exact .of_ok (of_decide_eq_true rfl)

theorem answerRules_recipeRead (f : Feeder) : AnswerRules p code s (recipeReadBody f l s) := by
  unfold recipeReadBody
  dsimp only
  split
  · exact .refuse _
  · split
    · exact .of_ok (Nat.zero_le _)
    · refine .of_same fun _ hf => ?_
      obtain ⟨-, hplies, -⟩ := (FeederRec.recipesSound_iff _).1 (hf f).1
      rw [List.length_append]
      cases h : (s.feeder f).recipes[byteAt l 0]? with
      | none => exact of_decide_eq_true rfl
      | some x =>
        have hx := hplies x (List.mem_of_getElem? h)
        simp only [Option.elim_some, Recipe.length_bytes, List.length_cons, List.length_nil]
        omega

theorem answerRules_feederSetup (f : Feeder) : AnswerRules p code s (feederSetupBody f l s) := by
  unfold feederSetupBody
  dsimp only
  split
  · exact .refuse _
  · split
    · exact .refuse _
    · split
      · exact .refuse _
      · exact .of_clamp (of_decide_eq_true rfl)

theorem answerRules_plyCall (f : Feeder) : AnswerRules p code s (plyCallBody f l s) := by
  refine .withoutPayload ?_
  dsimp only
  split
  · exact .refuse _
  · split
    · exact .refuse _
    · exact .of_ok (of_decide_eq_true rfl)

theorem answerRules_patchCall (f : Feeder) : AnswerRules p code s (patchCallBody f l s) := by
  unfold patchCallBody
  split
  · exact .refuse _
  · split
    · exact .refuse _
    · split
      · exact .refuse _
      · exact .of_ok (Nat.zero_le _)

theorem answerRules_feederStop (f : Feeder) : AnswerRules p code s (feederStopBody f l s) := by
  refine .withoutPayload (.of_ok ?_)
  exact of_decide_eq_true rfl

theorem answerRules_callStatus (f : Feeder) : AnswerRules p code s (callStatusBody f l s) := by
  refine .withoutPayload (.of_same fun _ hf => ?_)
  have := (hf f).2.length_allGrants_le
  rw [State.length_callStatus]
  omega

/-! ## The answers of a port -/

theorem answerRules_fetchOutcome : AnswerRules p code s (fetchOutcomeBody p l s) := by
  refine .withoutPayload ?_
  dsimp only
  split
  · exact .of_ok (Nat.zero_le _)
  · exact .of_ok ((OutcomeRec.length_bytes_le _).trans (by decide))

theorem answerRules_readFlags : AnswerRules p code s (readFlagsBody p l s) := by
  refine .withoutPayload (.of_ok ?_)
  exact of_decide_eq_true rfl

theorem answerRules_clearFlags : AnswerRules p code s (clearFlagsBody p l s) := by
  unfold clearFlagsBody
  split
  · exact .refuse _
  · exact .of_ok (of_decide_eq_true rfl)

theorem answerRules_setMask : AnswerRules p code s (setMaskBody p l s) := by
  unfold setMaskBody
  split
  · exact .refuse _
  · exact .of_ok (of_decide_eq_true rfl)

theorem answerRules_readCounters : AnswerRules p code s (readCountersBody p l s) := by
  unfold readCountersBody
  split
  · exact .refuse _
  · refine .of_ok ?_
    simp only [List.length_cons, length_flatMap_of_length fun c => length_be32 (s.counter c)]
    have := length_counterGroup_le (byteAt l 0)
    omega

theorem answerRules_clearCounters : AnswerRules p code s (clearCountersBody p l s) := by
  unfold clearCountersBody
  split
  · exact .refuse _
  · exact .of_ok (of_decide_eq_true rfl)

end Rules

/-! ## Every request -/

theorem answerRules_requestBody {c : Instr} {p : Port} {code : Byte} {f : Frame} (hc : c.request? = some (p, code, f))
    (s : State) : AnswerRules p code s (requestBody c s) := by
  cases c
  case sheetReport => cases hc; exact answerRules_takeReport
  case lineRestart => cases hc; exact answerRules_lineRestart
  case readTracking => cases hc; exact answerRules_readTracking
  case readLanes => cases hc; exact answerRules_readLanes
  case ruleWrite => cases hc; exact answerRules_ruleWrite
  case ruleRead => cases hc; exact answerRules_ruleRead
  case ruleSwap => cases hc; exact answerRules_ruleSwap
  case layoutWrite => cases hc; exact answerRules_layoutWrite
  case layoutRead => cases hc; exact answerRules_layoutRead
  case enterRun => cases hc; exact answerRules_enterRun
  case enterSetup => cases hc; exact answerRules_enterSetup
  case binRead => cases hc; exact answerRules_binRead
  case stackRead => cases hc; exact answerRules_stackRead
  case binDrain => cases hc; exact .binRequest answerRules_drainBin
  case binService => cases hc; exact .binRequest answerRules_serviceBin
  case binLock => cases hc; exact .binRequest answerRules_lockBin
  case binUnload => cases hc; exact .binRequest answerRules_unloadBin
  case binRemoveTop => cases hc; exact .binRequest (answerRules_removeTop _)
  case resolveLanded | resolveLost | resolveClear => cases hc; exact answerRules_binResolve
  case lotHold => cases hc; exact answerRules_lotHold
  case lotRelease => cases hc; exact answerRules_lotRelease
  case lotList => cases hc; exact answerRules_lotList
  case recipeLoad => cases hc; exact .feederBody answerRules_recipeLoad
  case recipeRead => cases hc; exact .feederBody fun g _ => answerRules_recipeRead g
  case feederSetup => cases hc; exact .feederBody fun g _ => answerRules_feederSetup g
  case plyCall => cases hc; exact .feederBody fun g _ => answerRules_plyCall g
  case patchCall => cases hc; exact .feederBody fun g _ => answerRules_patchCall g
  case pickDone | pickFailed => cases hc; exact .feederBody fun _ _ => .pickBody
  case feederStop => cases hc; exact .feederBody fun g _ => answerRules_feederStop g
  case callStatus => cases hc; exact .feederBody fun g _ => answerRules_callStatus g
  case fetchOutcome => cases hc; exact answerRules_fetchOutcome
  case readFlags => cases hc; exact answerRules_readFlags
  case clearFlags => cases hc; exact answerRules_clearFlags
  case setMask => cases hc; exact answerRules_setMask
  case readCounters => cases hc; exact answerRules_readCounters
  case clearCounters => cases hc; exact answerRules_clearCounters
  case badRequest => exact .refuse _
  all_goals cases hc

/-- Settles O13. -/
theorem refusedRequestsChangeNothing : Obligations.RefusedRequestsChangeNothing := fun _ _ _ _ s hc h =>
  ⟨_, _, exec_of_asks hc h, (answerRules_requestBody hc s).refused⟩

/-- Settles O14. -/
theorem repliesFitTheLengthByte : Obligations.RepliesFitTheLengthByte := fun _ _ _ _ s hc h hq hf =>
  ⟨_, _, exec_of_asks hc h, (answerRules_requestBody hc s).fits hq hf⟩

end Sys2Proof.Machine
end

section
/-! The requests that read (R14, R33, R64, R119 to R121, R137, R169, R174, R209): what each gives, and the layouts of what it
gives field by field (R125, R169, R171, R194 to R196). -/

namespace Sys2Proof.Machine

set_option Elab.async false

open Sys2Proof

/-! ## Numbers in payloads -/

theorem binOfNumber_binNumber (b : BinId) : binOfNumber (binNumber b) = some b := by
  have h : 1 ≤ b.val + 1 ∧ b.val + 1 ≤ 16 := ⟨Nat.le_add_left _ _, b.isLt⟩
  simp [binOfNumber, binNumber, h]

@[simp] theorem toNat_u8_binNumber (b : BinId) : (u8 (binNumber b)).toNat = binNumber b := by
  rw [toNat_u8, binNumber, Nat.mod_eq_of_lt (by omega)]

theorem binOfNumber_eq_none {n : Nat} : binOfNumber n = none ↔ n = 0 ∨ 16 < n := by
  unfold binOfNumber
  split <;> simp <;> omega

theorem byteAt_append_right (l m : List Byte) (i : Nat) : byteAt (l ++ m) (l.length + i) = byteAt m i := by
  simp [byteAt, List.getElem?_append_right]

/-- A field of the `k`-th record of a run of records that are all `n` bytes long. -/
theorem byteAt_flatMap {α : Type} {g : α → List Byte} {n : Nat} (h : ∀ a, (g a).length = n) {l : List α} {k : Nat} {a : α}
    (hk : l[k]? = some a) {j : Nat} (hj : j < n) : byteAt (l.flatMap g) (n * k + j) = byteAt (g a) j := by
  induction l generalizing k with
  | nil => simp at hk
  | cons x l ih =>
    cases k with
    | zero =>
      obtain rfl : x = a := by simpa using hk
      have hlt : j < (g x).length := (h x).symm ▸ hj
      simp [byteAt, List.getElem?_append_left hlt]
    | succ k =>
      rw [List.flatMap_cons, show n * (k + 1) + j = (g x).length + (n * k + j) by rw [h x, Nat.mul_succ]; omega,
        byteAt_append_right]
      exact ih (by simpa using hk)

/-! ## READ TRACKING, READ LANES, READ COUNTERS, RULE READ and LAYOUT READ -/

section Line

variable {p : Port} {f : Frame} {s : State}

/-- A payload of one byte above a bound, or of another length. -/
theorem badByte_of {l : List Byte} {m : Nat} (h : l.length ≠ 1 ∨ ∃ i : Byte, l = [i] ∧ m < i.toNat) :
    l.length ≠ 1 ∨ m < byteAt l 0 := by
  rcases h with h | ⟨i, rfl, hi⟩
  · exact .inl h
  · exact .inr hi

theorem not_badByte {i : Byte} {m : Nat} (h : i.toNat ≤ m) : ¬ (([i] : List Byte).length ≠ 1 ∨ m < byteAt [i] 0) := by
  simpa using h

theorem exec_readTracking (h : s.asks p 0x03 f) {i : Byte} (hf : f.payload = [i]) (hi : i.toNat ≤ 23) :
    exec (.readTracking p f) s = .next (s.answer p
      ⟨.ok, u8 s.tracker.queue.length :: i :: ((s.tracker.queue.drop i.toNat).take 7).flatMap TrackRec.bytes⟩) := by
  refine exec_answer rfl h ?_
  change readTrackingBody p f.payload s = _
  rw [hf, readTrackingBody, if_neg (not_badByte hi)]
  simp [Config.trackingReadMax]

theorem exec_readTracking_refused (h : s.asks p 0x03 f)
    (hf : f.payload.length ≠ 1 ∨ ∃ i : Byte, f.payload = [i] ∧ 23 < i.toNat) :
    exec (.readTracking p f) s = .next (s.answer p ⟨.badArg, []⟩) :=
  exec_answer rfl h (if_pos (badByte_of hf))

/-- A request without a payload is answered, and one with a payload refused. -/
theorem withoutPayload_eq (l : List Byte) (body : State → Reply × State) (s : State) :
    withoutPayload l body s = if l = [] then body s else refuse .badArg s := by
  cases l <;> simp [withoutPayload]

theorem exec_readLanes (h : s.asks p 0x56 f) :
    exec (.readLanes p f) s = .next (s.answer p
      (if f.payload = [] then
        ⟨.ok, u8 s.activeLayout.laneCount :: lanesInOrder.flatMap fun i =>
          [u8 s.lanes[i].state.code, u8 s.lanes[i].run, errorByte s.lanes[i].errors]⟩
      else ⟨.badArg, []⟩)) := by
  refine exec_answer rfl h ?_
  change readLanesBody p f.payload s = _
  rw [readLanesBody, withoutPayload_eq]
  split <;> rfl

theorem exec_readCounters (h : s.asks p 0x54 f) {g : Byte} (hf : f.payload = [g]) (hg : g.toNat ≤ 4) :
    exec (.readCounters p f) s = .next (s.answer p
      ⟨.ok, g :: u8 (counterGroup g.toNat).length :: (counterGroup g.toNat).flatMap fun c => be32 (s.counter c)⟩) := by
  refine exec_answer rfl h ?_
  change readCountersBody p f.payload s = _
  rw [hf, readCountersBody, if_neg (not_badByte hg)]
  simp

theorem exec_readCounters_refused (h : s.asks p 0x54 f)
    (hf : f.payload.length ≠ 1 ∨ ∃ g : Byte, f.payload = [g] ∧ 4 < g.toNat) :
    exec (.readCounters p f) s = .next (s.answer p ⟨.badArg, []⟩) :=
  exec_answer rfl h (if_pos (badByte_of hf))

theorem ruleGroupLength_isSome (g : Nat) : (ruleGroupLength g).isSome = true ↔ g ≤ 5 := by
  rcases g with _ | _ | _ | _ | _ | _ | g <;> simp [ruleGroupLength]

theorem bankOfNumber_eq_none {n : Nat} : bankOfNumber n = none ↔ 1 < n := by
  rcases n with _ | _ | n <;> simp [bankOfNumber]

theorem exec_ruleRead (h : s.asks p 0x11 f) {n g : Byte} (hf : f.payload = [n, g]) (hn : n.toNat ≤ 1) (hg : g.toNat ≤ 5) :
    exec (.ruleRead p f) s = .next (s.answer p
      ⟨.ok, [u8 s.rules.active.code, u8 (bit s.rules.armed)] ++ be16 s.rules.serial.toNat ++ [n, g] ++
        (if n = 0 then s.rules.bank0 else s.rules.bank1).groupBytes g.toNat⟩) := by
  refine exec_answer rfl h ?_
  change ruleReadBody p f.payload s = _
  obtain ⟨k, hk⟩ := Option.isSome_iff_exists.1 ((ruleGroupLength_isSome g.toNat).2 hg)
  have hbank : n = 0 ∨ n = 1 := by bv_omega
  rw [hf, ruleReadBody]
  rcases hbank with rfl | rfl <;>
    simp [bankOfNumber, hk, BankNo.code, RuleBanks.bank, u8]

theorem exec_ruleRead_refused (h : s.asks p 0x11 f)
    (hf : f.payload.length ≠ 2 ∨ ∃ n g : Byte, f.payload = [n, g] ∧ (1 < n.toNat ∨ 5 < g.toNat)) :
    exec (.ruleRead p f) s = .next (s.answer p ⟨.badArg, []⟩) := by
  refine exec_answer rfl h ?_
  change ruleReadBody p f.payload s = refuse .badArg s
  unfold ruleReadBody
  split
  next b k hb hk =>
    rw [if_neg]
    rcases hf with hlen | ⟨n, g, hng, hbad⟩
    · exact hlen
    · have hb' : ¬ 1 < n.toNat := fun hn => by
        rw [hng, byteAt_cons_zero, bankOfNumber_eq_none.2 hn] at hb
        cases hb
      have hg' : g.toNat ≤ 5 := (ruleGroupLength_isSome _).1 (by rw [hng] at hk; exact Option.isSome_of_eq_some hk)
      omega
  next => rfl

theorem exec_layoutRead (h : s.asks p 0x19 f) {k g : Byte} (hf : f.payload = [k, g]) (hk : k.toNat ≤ 1)
    (hg : g.toNat ≤ 16) :
    exec (.layoutRead p f) s = .next (s.answer p
      ⟨.ok, [u8 s.mode.code, k, g] ++ (if k = 0 then s.pendingLayout else s.activeLayout).groupBytes g.toNat⟩) := by
  refine exec_answer rfl h ?_
  change layoutReadBody p f.payload s = _
  have hzero : k.toNat = 0 ↔ k = 0 := by bv_omega
  have hok : ¬ (([k, g] : List Byte).length ≠ 2 ∨ 1 < byteAt [k, g] 0 ∨ 16 < byteAt [k, g] 1) := by
    simp
    omega
  rw [hf, layoutReadBody, if_neg hok]
  simp [hzero]

theorem exec_layoutRead_refused (h : s.asks p 0x19 f)
    (hf : f.payload.length ≠ 2 ∨ ∃ k g : Byte, f.payload = [k, g] ∧ (1 < k.toNat ∨ 16 < g.toNat)) :
    exec (.layoutRead p f) s = .next (s.answer p ⟨.badArg, []⟩) := by
  refine exec_answer rfl h (if_pos ?_)
  rcases hf with hlen | ⟨k, g, hkg, hbad⟩
  · exact .inl hlen
  · rw [hkg]
    exact .inr hbad

end Line

/-! ## BIN READ, STACK READ, LOT LIST, RECIPE READ and CALL STATUS -/

section Store

variable {p : Port} {f : Frame} {s : State}

theorem exec_binRead (h : s.asks p 0x20 f) {m : BitVec 16} (hf : f.payload = be16 m.toNat) :
    exec (.binRead p f) s = .next (s.answer p
      ⟨.ok, (binsInOrder.filter fun b => m.getLsbD b.val).flatMap s.summary⟩) := by
  refine exec_answer rfl h ?_
  change binReadBody p f.payload s = _
  have hlen : ¬ (be16 m.toNat).length ≠ 2 := by simp
  rw [hf, binReadBody, if_neg hlen, nat16At_be16_nil, Nat.mod_eq_of_lt m.isLt]
  simp only [binsOfMask, BitVec.testBit_toNat]

theorem exec_stackRead (h : s.asks p 0x21 f) {b : BinId} {depth count : Byte}
    (hf : f.payload = [u8 (binNumber b), depth, count]) (hlo : 1 ≤ count.toNat) (hhi : count.toNat ≤ 8) :
    exec (.stackRead p f) s = .next (s.answer p
      (if (s.bin b).state = .off then ⟨.ok, [0, depth, 0, 0, 0]⟩
      else
        ⟨.ok, [u8 (s.bin b).stack.length, depth] ++
          be16 ((s.bin b).questioned.elim 0 fun q => q.sheet.store.toNat) ++
          [u8 ((s.bin b).questioned.elim 0 fun q => q.position)] ++
          (((s.bin b).stack.reverse.drop depth.toNat).take count.toNat).flatMap Sheet.bytes⟩)) := by
  refine exec_answer rfl h ?_
  change stackReadBody p f.payload s = _
  have hok : ¬ (([u8 (binNumber b), depth, count] : List Byte).length ≠ 3 ∨
      byteAt [u8 (binNumber b), depth, count] 2 < 1 ∨ 8 < byteAt [u8 (binNumber b), depth, count] 2) := by
    simp only [List.length_cons, List.length_nil, byteAt_cons_succ, byteAt_cons_zero]
    omega
  rw [hf, stackReadBody, if_neg hok]
  simp only [byteAt_cons_zero, byteAt_cons_succ, toNat_u8_binNumber, binOfNumber_binNumber, BinRec.readable,
    BinRec.stackBytes, u8_toNat]
  split
  · simp [be16, u8]
  · rfl

theorem exec_stackRead_refused (h : s.asks p 0x21 f)
    (hf : f.payload.length ≠ 3 ∨ ∃ n depth count : Byte, f.payload = [n, depth, count] ∧
      (n = 0 ∨ 16 < n.toNat ∨ count = 0 ∨ 8 < count.toNat)) :
    exec (.stackRead p f) s = .next (s.answer p ⟨.badArg, []⟩) := by
  refine exec_answer rfl h ?_
  change stackReadBody p f.payload s = refuse .badArg s
  unfold stackReadBody
  split
  next => rfl
  next hok =>
    rcases hf with hlen | ⟨n, depth, count, hpayload, hbad⟩
    · exact absurd (.inl hlen) hok
    · rw [hpayload] at hok ⊢
      simp only [byteAt_cons_zero, byteAt_cons_succ] at hok ⊢
      have hnone : binOfNumber n.toNat = none := binOfNumber_eq_none.2 (by bv_omega)
      rw [hnone]

theorem exec_lotList (h : s.asks p 0x32 f) :
    exec (.lotList p f) s = .next (s.answer p
      (if f.payload = [] then ⟨.ok, u8 s.lotHolds.length :: s.lotHolds.flatMap fun x => be16 x.toNat⟩
      else ⟨.badArg, []⟩)) := by
  refine exec_answer rfl h ?_
  change lotListBody p f.payload s = _
  rw [lotListBody, withoutPayload_eq]
  split <;> rfl

theorem exec_recipeRead {g : Feeder} (hp : p = .feeder g) (h : s.asks p 0x41 f) {i : Byte} (hf : f.payload = [i])
    (hi : i.toNat ≤ 1) :
    exec (.recipeRead p f) s = .next (s.answer p
      (if (s.feeder g).recipes = [] then ⟨.ok, []⟩
      else
        ⟨.ok, [u8 (s.feeder g).recipes.length, u8 ((s.feeder g).position.getD 0), i] ++
          ((s.feeder g).recipes[i.toNat]?.elim [] Recipe.bytes)⟩)) := by
  subst hp
  refine exec_answer rfl h ?_
  change recipeReadBody g f.payload s = _
  rw [hf, recipeReadBody, if_neg (not_badByte hi)]
  split
  · rfl
  · simp

theorem exec_recipeRead_refused {g : Feeder} (hp : p = .feeder g) (h : s.asks p 0x41 f)
    (hf : f.payload.length ≠ 1 ∨ ∃ i : Byte, f.payload = [i] ∧ 1 < i.toNat) :
    exec (.recipeRead p f) s = .next (s.answer p ⟨.badArg, []⟩) := by
  subst hp
  exact exec_answer rfl h (if_pos (badByte_of hf))

theorem exec_callStatus {g : Feeder} (hp : p = .feeder g) (h : s.asks p 0x48 f) :
    exec (.callStatus p f) s = .next (s.answer p
      (if f.payload = [] then ⟨.ok, s.callStatus g⟩ else ⟨.badArg, []⟩)) := by
  subst hp
  refine exec_answer rfl h ?_
  change callStatusBody g f.payload s = _
  rw [callStatusBody, withoutPayload_eq]
  split <;> rfl

end Store

end Sys2Proof.Machine
end

section
/-! The byte layouts that the reads give, field by field (R60, R125, R169, R171, R194 to R196). -/

namespace Sys2Proof.Machine

set_option Elab.async false

open Sys2Proof

/-! ## Records (R194, R196) -/

section Records

variable {l : List Byte}

theorem bytes_sheet {x : Sheet} (h : l = x.bytes) :
    l.length = 14 ∧ nat16At l 0 = x.store.toNat ∧ nat32At l 2 = x.lineId.toNat ∧ nat16At l 6 = x.lot.toNat ∧
      nat16At l 8 = x.length % 65536 ∧ nat16At l 10 = x.density % 65536 ∧
      byteAt l 12 = (x.cls.code * 16 + x.species) % 256 ∧
      byteAt l 13 = x.width.code + 4 * x.degraded.toNat + 8 * x.capped.toNat + 16 * x.held.toNat +
        32 * feederCode x.reserved := by
  have hmarks : (x.width.code + 4 * bit x.degraded + 8 * bit x.capped + 16 * bit x.held + 32 * feederCode x.reserved) % 256 =
      x.width.code + 4 * x.degraded.toNat + 8 * x.capped.toNat + 16 * x.held.toNat + 32 * feederCode x.reserved := by
    have hwidth : x.width.code < 3 := by cases x.width <;> decide
    have hfeeder : feederCode x.reserved < 3 := by rcases x.reserved with _ | _ | _ <;> decide
    have hmark (b : Bool) : bit b = b.toNat ∧ b.toNat ≤ 1 := ⟨bit_eq_toNat b, bit_eq_toNat b ▸ bit_le_one b⟩
    have := hmark x.degraded
    have := hmark x.capped
    have := hmark x.held
    omega
  subst h
  simp [Sheet.bytes, be16, be32, nat16At, nat32At, hmarks, x.store.isLt, x.lineId.isLt, x.lot.isLt]

theorem bytes_trackRec {x : TrackRec} (h : l = x.bytes) :
    l.length = 16 ∧ nat16At l 0 = x.store.toNat ∧ nat16At l 2 = x.lead.toNat ∧
      (x.trail = none → nat16At l 4 = 0 ∧ nat16At l 6 = 0) ∧
      (∀ e, x.trail = some e → nat16At l 4 = e.pos.toNat ∧ nat16At l 6 = e.eyeLength % 65536) ∧
      (x.paired = none → nat32At l 8 = 0) ∧ (∀ i, x.paired = some i → nat32At l 8 = i.lineId.toNat) ∧
      byteAt l 12 = (match (generalizing := false) x.report with
          | .none => 0 | .grading => 1 | .graded => 2 | .skipped => 3) +
        4 * x.long.toNat + 8 * x.trail.isSome.toNat + 16 * x.paired.isSome.toNat + 32 * x.result.isSome.toNat ∧
      byteAt l 13 = x.disp.code ∧ (x.result = none → byteAt l 14 = 0 ∧ byteAt l 15 = 0) ∧
      ∀ y, x.result = some y →
        byteAt l 14 = (match (generalizing := false) y.cls with | none => 0xFF | some c => c.code) ∧
          byteAt l 15 = y.reason.code := by
  have hmarks : (x.report.code + 4 * bit x.long + 8 * bit x.trail.isSome + 16 * bit x.paired.isSome +
        32 * bit x.result.isSome) % 256 =
      (match (generalizing := false) x.report with | .none => 0 | .grading => 1 | .graded => 2 | .skipped => 3) +
        4 * x.long.toNat + 8 * x.trail.isSome.toNat + 16 * x.paired.isSome.toNat + 32 * x.result.isSome.toNat := by
    have hmark (b : Bool) : bit b = b.toNat ∧ b.toNat ≤ 1 := ⟨bit_eq_toNat b, bit_eq_toNat b ▸ bit_le_one b⟩
    have := hmark x.long
    have := hmark x.trail.isSome
    have := hmark x.paired.isSome
    have := hmark x.result.isSome
    cases x.report <;> simp only [ReportState.code] <;> omega
  have hcls (c : Option GradeClass) : c.elim 0xFF GradeClass.code % 256 = (match c with | none => 0xFF | some c => c.code) := by
    rcases c with _ | _ | _ <;> rfl
  subst h
  refine ⟨rfl, ?_, ?_, fun hx => ?_, fun e hx => ?_, fun hx => ?_, fun i hx => ?_, ?_, ?_, fun hx => ?_, fun y hx => ?_⟩
  case refine_4 => simp [TrackRec.bytes, be16, be32, nat16At, hx, e.pos.isLt]
  case refine_6 => simp [TrackRec.bytes, be16, be32, nat16At, nat32At, hx, i.lineId.isLt]
  case refine_10 => simp [TrackRec.bytes, be16, be32, hx, hcls, y.reason.code_lt]
  all_goals simp_all [TrackRec.bytes, be16, be32, nat16At, nat32At, x.store.isLt, x.lead.isLt, x.disp.code_lt]

end Records

/-! ## The bin summary (R195) -/

theorem State.inbound_eq (s : State) (b : BinId) :
    s.inbound b = (s.gate b).lead.isSome.toNat + (s.gate b).follow.isSome.toNat + (s.bin b).inFlight.length := by
  simp [State.inbound, Gate.entries, bit]

theorem BinRec.holder_eq_none {r : BinRec} (h : r.holder = none) : ∀ x ∈ r.stack, x.reserved = none := by
  simpa [BinRec.holder, List.findSome?_eq_none_iff] using h

theorem BinRec.holder_eq_some {r : BinRec} {g : Feeder} (h : r.holder = some g) : ∃ x ∈ r.stack, x.reserved = some g :=
  List.exists_of_findSome?_eq_some h

theorem State.summary_of_off {s : State} {b : BinId} (h : (s.bin b).state = .off) :
    s.summary b = [0, 0, 0, 0, 0, 0, 0] := if_pos h

theorem State.summary_fields {s : State} {b : BinId} {r : BinRec} {l : List Byte} (hr : r = s.bin b)
    (hl : l = s.summary b) (hoff : r.state ≠ .off) :
    l.length = 7 ∧ byteAt l 0 = b.val + 1 ∧
      byteAt l 1 = (match (generalizing := false) r.state with
          | .off => 0 | .service => 1 | .drain => 2 | .check => 3 | .lockout => 4) +
        8 * (match (generalizing := false) r.mode with | .fixed => 0 | .float => 1) +
        16 * (match (generalizing := false) r.current with | none => 0xF | some c => c.code) ∧
      byteAt l 2 = r.capacity % 256 ∧ byteAt l 3 = r.stack.length % 256 ∧
      byteAt l 4 = (s.inbound b + 4 * r.inFlight.length + 16 * feederCode r.claim + 64 * feederCode r.holder) % 256 ∧
      byteAt l 5 = (r.stack.countP (·.reserved.isSome) + 8 * r.questioned.isSome.toNat + 16 * r.stray.toNat +
        32 * (match (generalizing := false) r.resume with | none => 0 | some .service => 1 | some .drain => 2) +
        128 * r.uncertain.toNat) % 256 ∧
      byteAt l 6 = r.stack.countP (·.held) % 256 := by
  have hkind : (r.state.code + 8 * r.mode.code + 16 * r.current.elim 0xF GradeClass.code) % 256 =
      (match (generalizing := false) r.state with
          | .off => 0 | .service => 1 | .drain => 2 | .check => 3 | .lockout => 4) +
        8 * (match (generalizing := false) r.mode with | .fixed => 0 | .float => 1) +
        16 * (match (generalizing := false) r.current with | none => 0xF | some c => c.code) := by
    cases r.state <;> cases r.mode <;> rcases r.current with _ | _ | _ <;> rfl
  have hresume : resumeCode r.resume =
      (match (generalizing := false) r.resume with | none => 0 | some .service => 1 | some .drain => 2) := by
    rcases r.resume with _ | _ | _ <;> rfl
  have hnumber : binNumber b % 256 = b.val + 1 := by
    rw [binNumber]
    omega
  subst hr
  have hsummary : s.summary b = _ := if_neg hoff
  rw [hsummary] at hl
  subst hl
  refine ⟨rfl, ?_⟩
  simp only [byteAt_cons_succ, byteAt_cons_zero, toNat_u8, hkind, hnumber, BinRec.reservedCount, bit_eq_toNat, hresume,
    and_self]

/-! ## CALL STATUS (R169) -/

theorem State.claimOf_eq_none {s : State} {g : Feeder} (h : ∀ b, (s.bin b).claim ≠ some g) : s.claimOf g = none := by
  rw [State.claimOf, List.find?_eq_none]
  exact fun b _ => by simpa using h b

theorem State.claimOf_eq_some {s : State} {g : Feeder} {b : BinId} (hb : (s.bin b).claim = some g)
    (hone : ∀ b', (s.bin b').claim = some g → b' = b) : s.claimOf g = some b := by
  cases h : s.claimOf g with
  | none =>
    rw [State.claimOf, List.find?_eq_none] at h
    exact absurd (by simpa using hb) (h b (mem_binsInOrder b))
  | some b' => rw [hone b' (by simpa using List.find?_some h)]

theorem FeederRec.allGrants_eq (r : FeederRec) :
    r.allGrants = r.grants ++ (match r.patch with | .granted e => [e] | .empty => [] | .unserved _ => []) := by
  unfold FeederRec.allGrants
  cases r.patch <;> rfl

theorem FeederRec.code_callState (r : FeederRec) :
    r.callState.code = if r.unserved ≠ [] then 1 else if r.grants ≠ [] then 2 else 0 := by
  unfold FeederRec.callState
  split
  · rfl
  · split <;> rfl

/-- The sixteen bytes of CALL STATUS ahead of the grants. -/
def State.callHeader (s : State) (g : Feeder) : List Byte := (s.callStatus g).take 16

theorem State.callStatus_eq (s : State) (g : Feeder) :
    s.callStatus g = s.callHeader g ++ (s.feeder g).allGrants.flatMap s.grantBytes := rfl

theorem State.callStatus_grant {s : State} {g : Feeder} {k : Nat} {e : Grant}
    (hk : (s.feeder g).allGrants[k]? = some e) {j : Nat} (hj : j < 5) :
    byteAt (s.callStatus g) (16 + 5 * k + j) = byteAt (s.grantBytes e) j := by
  rw [State.callStatus_eq, Nat.add_assoc, show 16 = (s.callHeader g).length from rfl, byteAt_append_right,
    byteAt_flatMap s.length_grantBytes hk hj]

theorem State.callStatus_grant16 {s : State} {g : Feeder} {k : Nat} {e : Grant}
    (hk : (s.feeder g).allGrants[k]? = some e) {j : Nat} (hj : j + 1 < 5) :
    nat16At (s.callStatus g) (16 + 5 * k + j) = nat16At (s.grantBytes e) j := by
  rw [nat16At, nat16At, State.callStatus_grant hk (Nat.lt_of_succ_lt hj), Nat.add_assoc, State.callStatus_grant hk hj]

theorem State.bytes_grant {s : State} {e : Grant} {l : List Byte} (h : l = s.grantBytes e) :
    byteAt l 0 = e.entry.origin.ply % 256 ∧ byteAt l 1 = e.bin.val + 1 ∧ nat16At l 2 = e.store.toNat ∧
      byteAt l 4 = e.entry.origin.isPatch.toNat + 2 * e.entry.reServed.toNat +
        4 * ((s.bin e.bin).stack.any fun x => x.store == e.store && x.held).toNat := by
  have hmarks (a b c : Bool) : (bit a + 2 * bit b + 4 * bit c) % 256 = a.toNat + 2 * b.toNat + 4 * c.toNat := by
    cases a <;> cases b <;> cases c <;> rfl
  subst h
  simp [State.grantBytes, be16, nat16At, hmarks, e.store.isLt, State.heldIn, binNumber]
  omega

theorem State.callStatus_fields {s : State} {g : Feeder} {r : FeederRec} {l : List Byte} (hr : r = s.feeder g)
    (hl : l = s.callStatus g) :
    byteAt l 0 = (if r.unserved ≠ [] then 1 else if r.grants ≠ [] then 2 else 0) ∧
      byteAt l 1 = (match (generalizing := false) r.patch with | .empty => 0 | .unserved _ => 1 | .granted _ => 2) ∧
      nat16At l 2 = (match (generalizing := false) r.recipes with | [] => 0 | head :: _ => head.number.toNat) ∧
      byteAt l 4 = r.position.getD 0 % 256 ∧
      byteAt l 5 = (match (generalizing := false) s.firstTurn with | .A => 0 | .B => 1) ∧
      byteAt l 6 = r.waitingPly.elim 0 (fun e => 1 + bit e.origin.isPatch) ∧
      nat16At l 7 = r.waitingPly.elim 0 (fun e => e.origin.recipe.toNat) ∧
      byteAt l 9 = r.waitingPly.elim 0 (fun e => e.origin.ply + 0x80 * bit e.reServed) % 256 ∧
      byteAt l 10 = optionBinNumber (r.waiting.bind (·.target)) ∧ byteAt l 11 = optionBinNumber (s.claimOf g) ∧
      nat16At l 12 = r.waiting.elim 0 (fun x => x.expiry - s.now) % 65536 ∧
      byteAt l 14 = r.unserved.length % 256 ∧ byteAt l 15 = r.allGrants.length % 256 := by
  have hstate : r.callState.code % 256 = if r.unserved ≠ [] then 1 else if r.grants ≠ [] then 2 else 0 := by
    rw [r.code_callState]
    split
    · rfl
    · split <;> rfl
  have hpatch : r.patch.code % 256 =
      (match (generalizing := false) r.patch with | .empty => 0 | .unserved _ => 1 | .granted _ => 2) := by
    cases r.patch <;> rfl
  have hhead : (headNumber r.recipes).toNat =
      (match (generalizing := false) r.recipes with | [] => 0 | head :: _ => head.number.toNat) := by
    rcases r.recipes with _ | ⟨head, rest⟩ <;> rfl
  have hturn : Feeder.turnCode s.firstTurn % 256 =
      (match (generalizing := false) s.firstTurn with | .A => 0 | .B => 1) := by
    cases s.firstTurn <;> rfl
  have hkind : r.waitingPly.elim 0 (fun e => 1 + bit e.origin.isPatch) % 256 =
      r.waitingPly.elim 0 (fun e => 1 + bit e.origin.isPatch) := by
    refine Nat.mod_eq_of_lt ?_
    rcases r.waitingPly with _ | e
    · decide
    · have := bit_le_one e.origin.isPatch
      simp only [Option.elim_some]
      omega
  have hnumber : r.waitingPly.elim 0 (fun e => e.origin.recipe.toNat) < 65536 := by
    rcases r.waitingPly with _ | e
    · decide
    · exact e.origin.recipe.isLt
  have hbin (o : Option BinId) : optionBinNumber o % 256 = optionBinNumber o := by
    refine Nat.mod_eq_of_lt ?_
    rcases o with _ | b
    · decide
    · simp only [optionBinNumber, binNumber]
      omega
  subst hr hl
  have hlt := (headNumber (s.feeder g).recipes).isLt
  rw [← hhead]
  simp [State.callStatus, be16, nat16At, hstate, hpatch, hturn, hkind, hbin, hlt, hnumber]

theorem bytes_callStatus {s : State} {g : Feeder} {r : FeederRec} {l : List Byte} (hr : r = s.feeder g)
    (hl : l = s.callStatus g) :
    l.length = 16 + 5 * r.allGrants.length ∧
      r.allGrants = r.grants ++
        (match (generalizing := false) r.patch with | .granted e => [e] | .empty => [] | .unserved _ => []) ∧
      byteAt l 0 = (if r.unserved ≠ [] then 1 else if r.grants ≠ [] then 2 else 0) ∧
      byteAt l 1 = (match (generalizing := false) r.patch with | .empty => 0 | .unserved _ => 1 | .granted _ => 2) ∧
      nat16At l 2 = (match (generalizing := false) r.recipes with | [] => 0 | head :: _ => head.number.toNat) ∧
      byteAt l 4 = r.position.getD 0 % 256 ∧
      byteAt l 5 = (match (generalizing := false) s.firstTurn with | .A => 0 | .B => 1) ∧
      (r.waiting = none →
        byteAt l 6 = 0 ∧ nat16At l 7 = 0 ∧ byteAt l 9 = 0 ∧ byteAt l 10 = 0 ∧ nat16At l 12 = 0) ∧
      (∀ w e, r.waiting = some w → r.front = some e →
        byteAt l 6 = (if e.origin.isPatch then 2 else 1) ∧ nat16At l 7 = e.origin.recipe.toNat ∧
        byteAt l 9 = (e.origin.ply + 0x80 * e.reServed.toNat) % 256 ∧
        byteAt l 10 = (match (generalizing := false) w.target with | none => 0 | some b => b.val + 1) ∧
        nat16At l 12 = (w.expiry - s.now) % 65536) ∧
      ((∀ b, (s.bin b).claim ≠ some g) → byteAt l 11 = 0) ∧
      (∀ b, (s.bin b).claim = some g → (∀ b', (s.bin b').claim = some g → b' = b) → byteAt l 11 = b.val + 1) ∧
      byteAt l 14 = r.unserved.length % 256 ∧ byteAt l 15 = r.allGrants.length % 256 ∧
      ∀ k e, r.allGrants[k]? = some e →
        byteAt l (16 + 5 * k) = e.entry.origin.ply % 256 ∧ byteAt l (17 + 5 * k) = e.bin.val + 1 ∧
        nat16At l (18 + 5 * k) = e.store.toNat ∧
        byteAt l (20 + 5 * k) = e.entry.origin.isPatch.toNat + 2 * e.entry.reServed.toNat +
          4 * ((s.bin e.bin).stack.any fun x => x.store == e.store && x.held).toNat := by
  obtain ⟨h0, h1, h2, h4, h5, h6, h7, h9, h10, h11, h12, h14, h15⟩ := State.callStatus_fields hr hl
  refine ⟨by rw [hl, hr]; exact s.length_callStatus g, r.allGrants_eq, h0, h1, h2, h4, h5, fun hw => ?_, fun w e hw he => ?_,
    fun hclaim => ?_, fun b hb hone => ?_, h14, h15, fun k e hk => ?_⟩
  · rw [h6, h7, h9, h10, h12, FeederRec.waitingPly, hw]
    exact ⟨rfl, rfl, rfl, rfl, rfl⟩
  · rw [h6, h7, h9, h10, h12, FeederRec.waitingPly, hw]
    simp only [Option.isSome_some, if_true, he, Option.elim_some, Option.bind_some, bit_eq_toNat, true_and, and_true]
    refine ⟨?_, ?_⟩
    · cases e.origin.isPatch <;> rfl
    · rcases w.target with _ | b <;> rfl
  · rw [h11, State.claimOf_eq_none hclaim]
    rfl
  · rw [h11, State.claimOf_eq_some hb hone]
    rfl
  · subst hr hl
    obtain ⟨hply, hbin, hstore, hmarks⟩ := State.bytes_grant (s := s) (e := e) rfl
    have h17 : 17 + 5 * k = 16 + 5 * k + 1 := by omega
    have h18 : 18 + 5 * k = 16 + 5 * k + 2 := by omega
    have h20 : 20 + 5 * k = 16 + 5 * k + 4 := by omega
    rw [h17, h18, h20, State.callStatus_grant hk (by decide), State.callStatus_grant16 hk (by decide),
      State.callStatus_grant hk (by decide)]
    exact ⟨(State.callStatus_grant hk (j := 0) (by decide)).trans hply, hbin, hstore, hmarks⟩

/-! ## Recipes (R125) -/

theorem bytes_plySpec {sp : PlySpec} {l : List Byte} (h : l = sp.bytes) :
    (∀ j < 3, byteAt l j = (match (generalizing := false) sp.classes[j]? with | none => 0xFF | some c => c.code)) ∧
      byteAt l 3 = (match (generalizing := false) sp.width with | none => 3 | some w => w.code) ∧
      nat16At l 4 = sp.species.toNat := by
  have hcls (c : Option GradeClass) : c.elim 0xFF GradeClass.code % 256 = (match c with | none => 0xFF | some c => c.code) := by
    rcases c with _ | _ | _ <;> rfl
  have hwidth : sp.width.elim 3 WidthClass.code % 256 =
      (match (generalizing := false) sp.width with | none => 3 | some w => w.code) := by
    rcases sp.width with _ | _ | _ <;> rfl
  subst h
  refine ⟨fun j hj => ?_, ?_, ?_⟩
  · have hplace : j = 0 ∨ j = 1 ∨ j = 2 := by omega
    rcases hplace with rfl | rfl | rfl <;> simp only [PlySpec.bytes, be16, List.cons_append, byteAt_cons_zero,
      byteAt_cons_succ, toNat_u8, hcls]
  · simp only [PlySpec.bytes, be16, List.cons_append, byteAt_cons_zero, byteAt_cons_succ, toNat_u8, hwidth]
  · simp [PlySpec.bytes, be16, nat16At, sp.species.isLt]

theorem Recipe.bytes_ply {x : Recipe} {k : Nat} {sp : PlySpec} (hk : x.plies[k]? = some sp) {j : Nat} (hj : j < 6) :
    byteAt x.bytes (3 + 6 * k + j) = byteAt sp.bytes j := by
  rw [Recipe.bytes, Nat.add_assoc, show 3 = (be16 x.number.toNat ++ [u8 x.plies.length]).length from rfl,
    byteAt_append_right, byteAt_flatMap PlySpec.length_bytes hk hj]

theorem Recipe.bytes_ply16 {x : Recipe} {k : Nat} {sp : PlySpec} (hk : x.plies[k]? = some sp) {j : Nat} (hj : j + 1 < 6) :
    nat16At x.bytes (3 + 6 * k + j) = nat16At sp.bytes j := by
  rw [nat16At, nat16At, Recipe.bytes_ply hk (Nat.lt_of_succ_lt hj), Nat.add_assoc, Recipe.bytes_ply hk hj]

theorem bytes_recipe {x : Recipe} {l : List Byte} (h : l = x.bytes) :
    l.length = 3 + 6 * x.plies.length ∧ nat16At l 0 = x.number.toNat ∧ byteAt l 2 = x.plies.length % 256 ∧
      ∀ k sp, x.plies[k]? = some sp →
        (∀ j < 3, byteAt l (3 + 6 * k + j) =
          (match (generalizing := false) sp.classes[j]? with | none => 0xFF | some c => c.code)) ∧
        byteAt l (6 + 6 * k) = (match (generalizing := false) sp.width with | none => 3 | some w => w.code) ∧
        nat16At l (7 + 6 * k) = sp.species.toNat := by
  subst h
  refine ⟨x.length_bytes, ?_, ?_, fun k sp hk => ?_⟩
  · simp [Recipe.bytes, be16, nat16At, x.number.isLt]
  · simp [Recipe.bytes, be16]
  · obtain ⟨hclasses, hwidth, hspecies⟩ := bytes_plySpec (sp := sp) rfl
    have h6 : 6 + 6 * k = 3 + 6 * k + 3 := by omega
    have h7 : 7 + 6 * k = 3 + 6 * k + 4 := by omega
    refine ⟨fun j hj => ?_, ?_, ?_⟩
    · rw [Recipe.bytes_ply hk (by omega), hclasses j hj]
    · rw [h6, Recipe.bytes_ply hk (by decide), hwidth]
    · rw [h7, Recipe.bytes_ply16 hk (by decide), hspecies]

/-! ## The groups of a bank and of a layout (R60, R171) -/

section Groups

variable {l : List Byte}

theorem bytes_weights {k : Bank} (h : l = k.groupBytes 0) :
    l.length = 6 ∧ ∀ i : Fin 6, byteAt l i.val = k.weight[i] % 256 := by
  subst h
  refine ⟨by simp [Bank.groupBytes, gradeOfGroup], fun i => ?_⟩
  simp [Bank.groupBytes, gradeOfGroup, byteAt]

theorem gradeOfGroup_succ (i : Fin 4) : gradeOfGroup (i.val + 1) = some i := by
  have h : 1 ≤ i.val + 1 ∧ i.val + 1 ≤ 4 := ⟨Nat.le_add_left _ _, i.isLt⟩
  simp [gradeOfGroup, h]

theorem bytes_limits {k : Bank} {i : Fin 4} (h : l = k.groupBytes (i.val + 1)) :
    l.length = 8 ∧ nat16At l 0 = k.grade[i].knotMax % 65536 ∧ byteAt l 2 = k.grade[i].openMax % 256 ∧
      nat16At l 3 = k.grade[i].splitMax % 65536 ∧ byteAt l 5 = k.grade[i].stainOk.toNat ∧
      nat16At l 6 = k.grade[i].densityMax % 65536 := by
  rw [Bank.groupBytes, gradeOfGroup_succ] at h
  subst h
  simp [GradeLimits.bytes, be16, nat16At, bit_mod]

theorem bytes_core {k : Bank} (h : l = k.groupBytes 5) :
    l.length = 11 ∧ nat16At l 0 = k.coreDensityMax % 65536 ∧ byteAt l 2 = k.coreOpenMax % 256 ∧
      nat16At l 3 = k.wetLaneLimit % 65536 ∧ nat16At l 5 = k.wetMeanLimit % 65536 ∧ nat16At l 7 = k.wFull % 65536 ∧
      nat16At l 9 = k.wHalf % 65536 := by
  subst h
  simp [Bank.groupBytes, gradeOfGroup, be16, nat16At]

theorem bytes_line {y : Layout} (h : l = y.groupBytes 0) :
    l = y.lineBytes ∧ l.length = 17 ∧ byteAt l 0 = y.laneCount % 256 ∧ byteAt l 1 = y.divide % 256 ∧
      nat16At l 2 = y.decision % 65536 ∧ nat16At l 4 = y.lead % 65536 ∧ nat16At l 6 = y.tail % 65536 ∧
      nat16At l 8 = y.lineEnd % 65536 ∧ byteAt l 10 = y.tolerance % 256 ∧ nat16At l 11 = y.window % 65536 ∧
      byteAt l 13 = y.qLow % 256 ∧ byteAt l 14 = y.qHigh % 256 ∧ byteAt l 15 = y.nLost % 256 ∧
      byteAt l 16 = y.nBack % 256 := by
  have hline : y.groupBytes 0 = y.lineBytes := rfl
  refine ⟨h.trans hline, ?_⟩
  subst h
  simp [hline, Layout.lineBytes, be16, nat16At]

theorem bytes_layoutBin {y : Layout} {b : BinId} (h : l = y.groupBytes (b.val + 1)) :
    l = y.bins[b].bytes ∧ l.length = 5 ∧ byteAt l 0 = y.bins[b].fitted.toNat ∧
      nat16At l 1 = y.bins[b].gate % 65536 ∧ byteAt l 3 = y.bins[b].capacity % 256 ∧
      byteAt l 4 = (match (generalizing := false) y.bins[b].fixedClass with | none => 0xFF | some c => c.code) := by
  have hgroup : y.groupBytes (b.val + 1) = y.bins[b].bytes := by
    have hbin : binOfGroup (b.val + 1) = some b := binOfNumber_binNumber b
    rw [Layout.groupBytes, hbin]
  have hmode : layoutModeCode y.bins[b].fixedClass % 256 =
      (match (generalizing := false) y.bins[b].fixedClass with | none => 0xFF | some c => c.code) := by
    rcases y.bins[b].fixedClass with _ | _ | _ <;> rfl
  refine ⟨h.trans hgroup, ?_⟩
  subst h
  rw [hgroup]
  simp only [BinLayout.bytes, be16, nat16At, List.cons_append, List.nil_append, byteAt_cons_zero, byteAt_cons_succ,
    toNat_u8, bit_mod, hmode, join_bytes16, List.length_cons, List.length_nil, and_self]

end Groups

/-- Settles O15. -/
theorem readRequests : Obligations.ReadRequests := by
  refine ⟨fun p f s => ⟨fun h => ⟨fun i => exec_readTracking h, exec_readTracking_refused h⟩, exec_readLanes,
      fun h => ⟨fun g => exec_readCounters h, exec_readCounters_refused h⟩,
      fun h => ⟨fun n g => exec_ruleRead h, exec_ruleRead_refused h⟩,
      fun h => ⟨fun k g => exec_layoutRead h, exec_layoutRead_refused h⟩⟩,
    fun p f s => ⟨fun h => ⟨fun m => exec_binRead h, fun hf => exec_answer rfl h (if_pos hf)⟩,
      fun h => ⟨fun b depth count => exec_stackRead h, exec_stackRead_refused h⟩, exec_lotList,
      fun g hp h => ⟨fun i => exec_recipeRead hp h, exec_recipeRead_refused hp h⟩, fun g => exec_callStatus⟩,
    fun n => ⟨rfl, rfl⟩, rfl, rfl, rfl, rfl, fun b => rfl, rfl, rfl, fun _ _ => bytes_sheet, fun _ _ => bytes_trackRec,
    fun s b r l hr hl => ⟨fun hoff => ?_, State.summary_fields hr hl, s.inbound_eq b ▸ hr ▸ rfl, BinRec.holder_eq_none,
      fun g => BinRec.holder_eq_some⟩,
    fun _ _ _ _ => bytes_callStatus, fun _ _ => bytes_recipe,
    fun k l => ⟨bytes_weights, fun i => bytes_limits, bytes_core⟩, fun y l => ⟨bytes_line, fun b => bytes_layoutBin⟩⟩
  subst hr hl
  exact State.summary_of_off hoff

end Sys2Proof.Machine
end

section
/-! SHEET REPORT (R2, R3) and the reading of its payload (R193). -/

namespace Sys2Proof.Machine

set_option Elab.async false

open Sys2Proof

/-! ## The defects of a payload (R193) -/

theorem DefectKind.ofCode_eq_none {n : Nat} : DefectKind.ofCode n = none ↔ 5 < n := by
  rcases n with _ | _ | _ | _ | _ | _ | n <;> simp [DefectKind.ofCode]

theorem DefectKind.code_of_ofCode {n : Nat} {k : DefectKind} (h : DefectKind.ofCode n = some k) : k.code.val = n := by
  rcases n with _ | _ | _ | _ | _ | _ | n <;> simp [DefectKind.ofCode] at h <;> subst h <;> rfl

theorem defectAt_eq_none (l : List Byte) (i : Nat) :
    defectAt l i = none ↔
      (maskAt l).getLsbD (byteAt l (37 + 3 * i) % 16) = false ∨ 5 < byteAt l (37 + 3 * i) / 16 := by
  unfold defectAt
  cases h : DefectKind.ofCode (byteAt l (37 + 3 * i) / 16) with
  | none => simp [DefectKind.ofCode_eq_none.1 h]
  | some k =>
    have hkind : ¬ 5 < byteAt l (37 + 3 * i) / 16 := by
      rw [← DefectKind.ofCode_eq_none, h]
      exact nofun
    by_cases hlane : byteAt l (37 + 3 * i) % 16 < 8
    · simp [hlane, hkind]
    · simp [hlane, hkind, BitVec.getLsbD_of_ge _ _ (Nat.not_lt.1 hlane)]

theorem defectAt_eq_some {l : List Byte} {i : Nat} {d : Defect} (h : defectAt l i = some d) :
    d.kind.code.val = byteAt l (37 + 3 * i) / 16 ∧ d.lane.val = byteAt l (37 + 3 * i) % 16 ∧
      d.size = nat16At l (38 + 3 * i) := by
  unfold defectAt at h
  cases hkind : DefectKind.ofCode (byteAt l (37 + 3 * i) / 16) with
  | none => simp [hkind] at h
  | some k =>
    simp only [hkind] at h
    split at h
    · split at h
      · cases h
        exact ⟨DefectKind.code_of_ofCode hkind, rfl, rfl⟩
      · cases h
    · cases h

theorem defectsAt_eq_none (l : List Byte) (i n : Nat) :
    defectsAt l i n = none ↔ ∃ k < n, defectAt l (i + k) = none := by
  induction n generalizing i with
  | zero => simp [defectsAt]
  | succ n ih =>
    have hrest : (∃ k < n, defectAt l (i + (k + 1)) = none) ↔ defectsAt l (i + 1) n = none := by
      rw [ih]
      simp only [Nat.add_assoc, Nat.add_comm 1]
    rw [Nat.exists_lt_succ_left, hrest, Nat.add_zero, defectsAt]
    cases defectAt l i <;> cases defectsAt l (i + 1) n <;> simp

theorem defectsAt_eq_some {l : List Byte} {i n : Nat} {ds : List Defect} (h : defectsAt l i n = some ds) :
    ds.length = n ∧ ∀ (k : Nat) (d : Defect), ds[k]? = some d → defectAt l (i + k) = some d := by
  induction n generalizing i ds with
  | zero =>
    cases h
    exact ⟨rfl, fun k d hd => by simp at hd⟩
  | succ n ih =>
    unfold defectsAt at h
    split at h
    next d rest hd hrest =>
      cases h
      obtain ⟨hlen, hall⟩ := ih hrest
      refine ⟨by rw [List.length_cons, hlen], fun k d' hk => ?_⟩
      cases k with
      | zero =>
        cases hk
        exact hd
      | succ k =>
        rw [← Nat.add_assoc, Nat.add_right_comm]
        exact hall k d' (by simpa using hk)
    next => cases h

/-! ## The report of a payload (R2, R193) -/

/-- What check 3 of R2 refuses before the defects. -/
def reportRefused (fitted : Nat) (l : List Byte) : Prop :=
  l.length < 37 ∨ l.length ≠ 37 + 3 * byteAt l 36 ∨ 24 < byteAt l 36 ∨ 15 < byteAt l 6 ∨ maskAt l = 0 ∨
    ∃ i : LaneId, fitted ≤ i.val ∧ (maskAt l).getLsbD i.val = true

/-- The report that a payload carries with its defects read. -/
def reportWith (l : List Byte) (ds : List Defect) : Report :=
  { lineId := BitVec.ofNat 32 (nat32At l 0)
    lot := BitVec.ofNat 16 (nat16At l 4)
    species := byteAt l 6
    length := nat16At l 7
    width := nat16At l 9
    mask := maskAt l
    quality := tabulateLanes fun i => if (maskAt l).getLsbD i.val then byteAt l (12 + i.val) else 0
    moisture := tabulateLanes fun i => if (maskAt l).getLsbD i.val then nat16At l (20 + 2 * i.val) else 0
    defects := ds }

theorem mem_lanesInOrder (i : LaneId) : i ∈ lanesInOrder := by revert i; decide

theorem reportOf_of_refused {fitted : Nat} {l : List Byte} (h : reportRefused fitted l) : reportOf fitted l = none := by
  refine if_pos ?_
  simpa [reportRefused, mem_lanesInOrder, Config.defectMax] using h

theorem reportOf_of_not_refused {fitted : Nat} {l : List Byte} (h : ¬ reportRefused fitted l) :
    reportOf fitted l = (defectsAt l 0 (byteAt l 36)).map (reportWith l) := by
  have hguard : ¬ (l.length < 37 ∨ l.length ≠ 37 + 3 * byteAt l 36 ∨ Config.defectMax < byteAt l 36 ∨ 15 < byteAt l 6 ∨
      maskAt l = 0 ∨ (lanesInOrder.any fun i => decide (fitted ≤ i.val) && (maskAt l).getLsbD i.val)) := by
    simpa [reportRefused, mem_lanesInOrder, Config.defectMax] using h
  refine (if_neg hguard).trans ?_
  cases defectsAt l 0 (byteAt l 36) <;> rfl

/-- The payloads refused are those refused before the defects, and those with a defect on a lane outside the mask or of no
kind. -/
theorem reportOf_eq_none (fitted : Nat) (l : List Byte) :
    reportOf fitted l = none ↔
      l.length < 37 ∨ l.length ≠ 37 + 3 * byteAt l 36 ∨ 24 < byteAt l 36 ∨ 15 < byteAt l 6 ∨ maskAt l = 0 ∨
        (∃ i : LaneId, fitted ≤ i.val ∧ (maskAt l).getLsbD i.val = true) ∨
        (∃ k < byteAt l 36, (maskAt l).getLsbD (byteAt l (37 + 3 * k) % 16) = false) ∨
        ∃ k < byteAt l 36, 5 < byteAt l (37 + 3 * k) / 16 := by
  have hdefects : (∃ k < byteAt l 36, (maskAt l).getLsbD (byteAt l (37 + 3 * k) % 16) = false) ∨
      (∃ k < byteAt l 36, 5 < byteAt l (37 + 3 * k) / 16) ↔ defectsAt l 0 (byteAt l 36) = none := by
    simp only [defectsAt_eq_none, Nat.zero_add, defectAt_eq_none, and_or_left, exists_or]
  have hsplit (c : Prop) : (l.length < 37 ∨ l.length ≠ 37 + 3 * byteAt l 36 ∨ 24 < byteAt l 36 ∨ 15 < byteAt l 6 ∨
      maskAt l = 0 ∨ (∃ i : LaneId, fitted ≤ i.val ∧ (maskAt l).getLsbD i.val = true) ∨ c) ↔
      reportRefused fitted l ∨ c := by
    simp only [reportRefused, or_assoc]
  rw [hdefects, hsplit]
  by_cases hrefused : reportRefused fitted l
  · simp [reportOf_of_refused hrefused, hrefused]
  · simp [reportOf_of_not_refused hrefused, hrefused]

theorem reportOf_fields {fitted : Nat} {l : List Byte} {r : Report} (h : reportOf fitted l = some r) :
    r.lineId.toNat = nat32At l 0 ∧ r.lot.toNat = nat16At l 4 ∧ r.species = byteAt l 6 ∧ r.length = nat16At l 7 ∧
      r.width = nat16At l 9 ∧ r.mask = maskAt l ∧
      (∀ i : LaneId, (maskAt l).getLsbD i.val = true →
        r.quality[i] = byteAt l (12 + i.val) ∧ r.moisture[i] = nat16At l (20 + 2 * i.val)) ∧
      r.defects.length = byteAt l 36 ∧
      ∀ (k : Nat) (d : Defect), r.defects[k]? = some d →
        d.kind.code.val = byteAt l (37 + 3 * k) / 16 ∧ d.lane.val = byteAt l (37 + 3 * k) % 16 ∧
          d.size = nat16At l (38 + 3 * k) := by
  have hnot : ¬ reportRefused fitted l := fun hr => by simp [reportOf_of_refused hr] at h
  rw [reportOf_of_not_refused hnot] at h
  obtain ⟨ds, hds, rfl⟩ := Option.map_eq_some_iff.1 h
  obtain ⟨hlen, hall⟩ := defectsAt_eq_some hds
  have h16 (i : Nat) : nat16At l i < 65536 := by
    have := byteAt_lt l i
    have := byteAt_lt l (i + 1)
    unfold nat16At
    omega
  have h32 : nat32At l 0 < 4294967296 := by
    have := h16 0
    have := h16 (0 + 2)
    unfold nat32At
    omega
  refine ⟨?_, ?_, rfl, rfl, rfl, rfl, fun i hi => ?_, hlen, fun k d hd => ?_⟩
  · simpa [reportWith] using h32
  · simpa [reportWith] using h16 4
  · simp only [reportWith, tabulateLanes_getElem, hi, if_true, and_self]
  · simpa using defectAt_eq_some (hall k d hd)

/-! ## SHEET REPORT (R2, R3) -/

section Requests

variable {f : Frame} {s : State}

theorem Report.clamped_fields (r : Report) :
    r.clamped.length = max 300 (min 3000 r.length) ∧ r.clamped.width = max 100 (min 1400 r.width) ∧
      (∀ i : LaneId, r.clamped.moisture[i] = if r.mask.getLsbD i.val then min 400 r.moisture[i] else 0) ∧
      r.clamped.defects = r.defects.map (fun d => { d with size := max 1 (min 1023 d.size) }) ∧
      r.clamped = { r with
        length := r.clamped.length, width := r.clamped.width, moisture := r.clamped.moisture
        defects := r.clamped.defects } := by
  refine ⟨rfl, rfl, fun i => ?_, rfl, rfl⟩
  simp only [Report.clamped, tabulateLanes_getElem, clamp, Nat.zero_max]

theorem exec_sheetReport (h : s.asks .line 0x01 f) (hmode : s.mode = .run) (hroom : s.reports.length < 4) {r : Report}
    (hr : reportOf s.activeLayout.laneCount f.payload = some r) :
    exec (.sheetReport .line f) s =
      .next (({ s with reports := s.reports ++ [r.clamped] }.bump .reportsAccepted).answer .line
        ⟨if r.clamped = r then .ok else .clamped, [u8 (s.reports.length + 1)]⟩) := by
  refine exec_answer rfl h ?_
  have hfull : ¬ 4 ≤ s.reports.length := Nat.not_le.2 hroom
  simp [requestBody, takeReport, hmode, hr, Config.reportQueueDepth, hfull]

theorem exec_sheetReport_of_setup (h : s.asks .line 0x01 f) (hmode : s.mode = .setup) :
    exec (.sheetReport .line f) s = .next ((s.bump .reportsRefused).answer .line ⟨.notRunning, []⟩) := by
  refine exec_answer rfl h ?_
  simp [requestBody, takeReport, refuseReport, Reply.bare, hmode]

theorem exec_sheetReport_refused (h : s.asks .line 0x01 f) (hmode : s.mode = .run)
    (hr : reportOf s.activeLayout.laneCount f.payload = none) :
    exec (.sheetReport .line f) s = .next ((s.bump .reportsRefused).answer .line ⟨.badArg, []⟩) := by
  refine exec_answer rfl h ?_
  simp [requestBody, takeReport, refuseReport, Reply.bare, hmode, hr]

theorem exec_sheetReport_full (h : s.asks .line 0x01 f) (hmode : s.mode = .run) {r : Report}
    (hr : reportOf s.activeLayout.laneCount f.payload = some r) (hfull : 4 ≤ s.reports.length) :
    exec (.sheetReport .line f) s = .next ((s.bump .reportsRefused).answer .line ⟨.full, []⟩) := by
  refine exec_answer rfl h ?_
  simp [requestBody, takeReport, refuseReport, Reply.bare, hmode, hr, Config.reportQueueDepth, hfull]

end Requests

/-- Settles O16. -/
theorem sheetReport : Obligations.SheetReport := by
  refine ⟨fun f s r h hmode hroom hr => ⟨r.clamped, exec_sheetReport h hmode hroom hr, r.clamped_fields⟩,
    fun f s h => ⟨exec_sheetReport_of_setup h, fun hmode => ⟨exec_sheetReport_refused h hmode,
      fun r hr => exec_sheetReport_full h hmode hr⟩⟩, fun fitted l mask hmask => ?_⟩
  subst hmask
  exact ⟨reportOf_eq_none fitted l, fun r => reportOf_fields⟩

end Sys2Proof.Machine
end

section
/-! The tracking queue's own rules, the edges at the eye and the deadlines of a record (R19 to R25), and the completion of a
grading (R53 to R58, R73, R76 to R80). -/

namespace Sys2Proof.Machine

set_option Elab.async false

open Sys2Proof

/-! ## The queue around one record -/

section Queue

variable {front behind : List TrackRec} {r : TrackRec}

/-- The other records of a queue carry other store numbers. -/
def OthersApart (front behind : List TrackRec) (n : StoreNo) : Prop := ∀ x ∈ front ++ behind, x.store ≠ n

theorem OthersApart.ne_of_mem_front (h : OthersApart front behind r.store) : ∀ x ∈ front, x.store ≠ r.store :=
  fun x hx => h x (List.mem_append_left _ hx)

theorem OthersApart.ne_of_mem_behind (h : OthersApart front behind r.store) : ∀ x ∈ behind, x.store ≠ r.store :=
  fun x hx => h x (List.mem_append_right _ hx)

theorem changeRecord_of_ne {n : StoreNo} (f : TrackRec → TrackRec) {q : List TrackRec} (h : ∀ x ∈ q, x.store ≠ n) :
    changeRecord n f q = q :=
  (List.map_congr_left fun x hx => if_neg (h x hx)).trans (List.map_id' q)

theorem changeRecord_split (h : OthersApart front behind r.store) (f : TrackRec → TrackRec) :
    changeRecord r.store f (front ++ r :: behind) = front ++ f r :: behind := by
  have hfront := changeRecord_of_ne f h.ne_of_mem_front
  have hbehind := changeRecord_of_ne f h.ne_of_mem_behind
  unfold changeRecord at *
  simp [hfront, hbehind]

theorem removeRecord_split (h : OthersApart front behind r.store) :
    removeRecord r.store (front ++ r :: behind) = front ++ behind := by
  have hfront := List.filter_eq_self.2 fun x hx => decide_eq_true (h.ne_of_mem_front x hx)
  have hbehind := List.filter_eq_self.2 fun x hx => decide_eq_true (h.ne_of_mem_behind x hx)
  unfold removeRecord
  simp only [List.filter_append, List.filter_cons, ne_eq, not_true_eq_false, decide_false, Bool.false_eq_true, if_false]
  rw [hfront, hbehind]

theorem State.record?_split {s : State} (hq : s.tracker.queue = front ++ r :: behind)
    (h : OthersApart front behind r.store) : s.record? r.store = some r := by
  have hnone : front.find? (fun x => decide (x.store = r.store)) = none := by
    simpa using h.ne_of_mem_front
  simp [State.record?, hq, List.find?_append, hnone]

theorem changeTail_append (f : TrackRec → TrackRec) (rest : List TrackRec) (r : TrackRec) :
    changeTail f (rest ++ [r]) = rest ++ [f r] := by
  simp [changeTail]

end Queue

/-! ## The edges at the eye (R19, R22) -/

section Eye

variable {s : State}

/-- Settles O20. -/
theorem eyeEdges : Obligations.EyeEdges := by
  refine ⟨fun s heye => ⟨fun hmode => ?_, fun hmode hfull => ?_, fun hmode hroom => ?_⟩, fun s => ⟨fun heye => ?_, ?_⟩⟩
  · change execEyeLeadingEdge s = _
    rw [execEyeLeadingEdge, heye]
    exact if_pos hmode
  · change execEyeLeadingEdge s = _
    have hrun : ¬ s.mode = .setup := by rw [hmode]; decide
    rw [execEyeLeadingEdge, heye]
    exact (if_neg hrun).trans (if_pos hfull)
  · change execEyeLeadingEdge s = _
    have hrun : ¬ s.mode = .setup := by rw [hmode]; decide
    rw [execEyeLeadingEdge, heye]
    exact (if_neg hrun).trans (if_neg (Nat.not_le.2 hroom))
  · change execEyeTrailingEdge s = _
    rw [execEyeTrailingEdge, heye]
    rfl
  · intro n rest r heye hq
    have hedge : exec .eyeTrailingEdge s = .next (s.trackedTrailingEdge n) := by
      change execEyeTrailingEdge s = _
      rw [execEyeTrailingEdge, heye]
    rw [hedge]
    refine ⟨fun hshort => ?_, fun hlong => ?_⟩
    · have hqueue : s.tracker.queue.dropLast = rest := by simp [hq]
      rw [State.trackedTrailingEdge, Config.fragmentLength, if_pos hshort, hqueue]
      rfl
    · rw [State.trackedTrailingEdge, Config.fragmentLength, if_neg (Nat.not_lt.2 hlong), hq, changeTail_append]
      rfl

end Eye

/-! ## The deadlines of a record (R23 to R25) -/

section Deadlines

variable {s : State} {front behind rest : List TrackRec} {r : TrackRec}

theorem exec_longObject {n : Nat} (heye : s.tracker.eye = .blockedTracked n) (hq : s.tracker.queue = rest ++ [r])
    (hlong : r.long = false) (hpos : s.tracker.pos = r.lead + 3000) :
    exec .longObject s =
      .next ((s.setQueue (rest ++ [{ r with long := true, disp := .runout .long }])).bump .longObjects) := by
  have htail : s.tailRecord = some r := by simp [State.tailRecord, hq]
  have hdue : s.longDue = true := by
    simp [State.longDue, heye, htail, hlong, hpos, Config.longObjectTravel]
  change Host.Outcome.next s.longObjectEvent = _
  rw [State.longObjectEvent, if_pos hdue, hq, changeTail_append]

theorem exec_decisionExpiry (hq : s.tracker.queue = front ++ r :: behind) (h : OthersApart front behind r.store)
    (hpos : r.expiryPos = s.tracker.pos) (htaken : r.expiryTaken = false) :
    exec (.decisionExpiry r.store) s =
      .next (if r.disp = .pending then (s.setQueue (front ++ r.afterExpiry :: behind)).raiseAll .late
        else s.setQueue (front ++ r.afterExpiry :: behind)) := by
  have hdue : r.expiryDue s.tracker.pos = true := by simp [TrackRec.expiryDue, hpos, htaken]
  change Host.Outcome.next (s.expiryEvent r.store) = _
  rw [State.expiryEvent, State.record?_split hq h]
  dsimp only
  rw [if_pos hdue, hq, changeRecord_split h]

theorem exec_endOfLine {e : Trail} {c : RunoutCause} (hq : s.tracker.queue = front ++ r :: behind)
    (h : OthersApart front behind r.store) (htrail : r.trail = some e) (hpos : e.endPos = s.tracker.pos)
    (hdisp : r.disp = .runout c) :
    exec (.endOfLine r.store) s = .next (((s.setQueue (front ++ behind)).bump (.runout c)).reportUnpaired r) := by
  have hdue : r.endDue s.tracker.pos = true := by simp [TrackRec.endDue, htrail, hpos, hdisp]
  change Host.Outcome.next (s.endOfLineEvent r.store) = _
  rw [State.endOfLineEvent, State.record?_split hq h]
  dsimp only
  rw [if_pos hdue, hq, removeRecord_split h, hdisp]
  rfl

end Deadlines

/-- Settles O22. -/
theorem recordDeadlines : Obligations.RecordDeadlines := by
  refine ⟨fun s => ⟨fun n rest r => exec_longObject, fun front behind r hq h hpos htaken => ?_⟩,
    fun s front behind r e c hq h htrail hpos hdisp => ?_⟩
  · rw [exec_decisionExpiry hq h hpos htaken]
    refine ⟨fun hp => ?_, fun hp => ?_⟩
    · rw [if_pos hp, TrackRec.afterExpiry, if_pos hp]
    · rw [if_neg hp, TrackRec.afterExpiry, if_neg hp]
  · rw [exec_endOfLine hq h htrail hpos hdisp]
    refine ⟨fun hnone hlong => ?_, fun hskipped => ?_, fun hother => ?_⟩
    · simp [State.reportUnpaired, hnone, hlong, htrail]
    · simp [State.reportUnpaired, hskipped]
    · rcases hother with ⟨hnone, hlong⟩ | hgrading | hgraded
      · simp [State.reportUnpaired, hnone, hlong]
      · simp [State.reportUnpaired, hgrading]
      · simp [State.reportUnpaired, hgraded]

/-! ## Completions (R53 to R58) -/

section Completion

variable {s : State} {front behind : List TrackRec} {r : TrackRec} {g : Grading}

theorem State.boundRecord_eq_none (h : ∀ y ∈ s.tracker.queue, y.store = g.store → y.report ≠ .grading) :
    s.boundRecord g = none := by
  simpa [State.boundRecord, List.find?_eq_none] using h

theorem State.boundRecord_split (hq : s.tracker.queue = front ++ r :: behind) (hstore : r.store = g.store)
    (hreport : r.report = .grading) (h : OthersApart front behind r.store) : s.boundRecord g = some r := by
  have hnone : front.find? (fun x => decide (x.store = g.store) && x.report == .grading) = none := by
    rw [List.find?_eq_none]
    intro x hx
    simp [← hstore, h.ne_of_mem_front x hx]
  simp [State.boundRecord, hq, List.find?_append, hnone, hstore, hreport]

theorem exec_gradingCompletion_gone (hg : s.engine = some g)
    (h : ∀ y ∈ s.tracker.queue, y.store = g.store → y.report ≠ .grading) :
    exec .gradingCompletion s =
      .next ((s.countGrade (s.gradingResult g)).send .line
        (.sheetDecided g.report.lineId g.store (.runout .late) (s.gradingResult g))).releaseEngine := by
  change Host.Outcome.next s.completionEvent = _
  rw [State.completionEvent, hg]
  dsimp only
  rw [State.boundRecord_eq_none h]

/-- A completion that finds its record: whatever settles the disposition, SHEET DECIDED reports the one it leaves. -/
theorem exec_gradingCompletion_found (hg : s.engine = some g) (hq : s.tracker.queue = front ++ r :: behind)
    (hstore : r.store = g.store) (hreport : r.report = .grading) (h : OthersApart front behind r.store) {d : Disposition}
    {t : State}
    (ht : (((s.countGrade (s.gradingResult g)).setQueue
      (front ++ TrackRec.withResult (s.gradingResult g) r :: behind)).settleDisposition r (s.gradingResult g)) = t)
    (hd : (t.record? r.store).map (·.disp) = some d) :
    exec .gradingCompletion s =
      .next (t.send .line (.sheetDecided g.report.lineId g.store d (s.gradingResult g))).releaseEngine := by
  have hqueue : (s.countGrade (s.gradingResult g)).tracker.queue = s.tracker.queue := by
    unfold State.countGrade
    split <;> rfl
  have hcomplete : (s.countGrade (s.gradingResult g)).completeRecord g r (s.gradingResult g) = t := by
    rw [State.completeRecord, hqueue, hq, ← hstore, changeRecord_split h, ht]
  have hdecision : t.decisionOf g.store = d := by
    obtain ⟨x, hx, rfl⟩ := Option.map_eq_some_iff.1 hd
    rw [State.decisionOf, ← hstore, hx, Option.elim_some]
  change Host.Outcome.next s.completionEvent = _
  rw [State.completionEvent, hg]
  dsimp only
  rw [State.boundRecord_split hq hstore hreport h]
  dsimp only
  rw [hcomplete, hdecision]

/-- The disposition of the record that a queue around it holds. -/
theorem State.map_disp_record? {x : TrackRec} {d : Disposition} (hq : s.tracker.queue = front ++ x :: behind)
    (hx : x.store = r.store) (hd : x.disp = d) (h : OthersApart front behind r.store) :
    (s.record? r.store).map (·.disp) = some d := by
  rw [← hx] at h ⊢
  rw [State.record?_split hq h, ← hd]
  rfl

/-- A disposition given to the record whose grading has ended. -/
theorem State.setDisposition_withResult (x : GradeResult) (d : Disposition) (h : OthersApart front behind r.store) :
    (s.setQueue (front ++ TrackRec.withResult x r :: behind)).setDisposition r.store d =
      s.setQueue (front ++ { r with report := .graded, result := some x, disp := d } :: behind) :=
  congrArg s.setQueue (changeRecord_split (r := TrackRec.withResult x r) h fun r => { r with disp := d })

theorem State.settleDisposition_of_not_pending (x : GradeResult) (h : r.disp ≠ .pending) : s.settleDisposition r x = s := by
  unfold State.settleDisposition
  split <;> simp_all

theorem State.countGrade_of_some {x : GradeResult} {c : GradeClass} (h : x.cls = some c) :
    s.countGrade x = s.bump (.graded c) := by
  rw [State.countGrade, h]

theorem State.countGrade_of_none {x : GradeResult} (h : x.cls = none) : s.countGrade x = s := by
  rw [State.countGrade, h]

end Completion

/-- Settles O25. -/
theorem completionWithoutRouting : Obligations.CompletionWithoutRouting := by
  refine ⟨fun s g x hg hx => ?_, fun u => ⟨fun h => ?_, fun h => ?_⟩⟩
  · subst hx
    refine ⟨exec_gradingCompletion_gone hg, fun front behind r hq hstore hreport h => ⟨fun hlate => ?_,
      fun hpending hcls => ?_⟩⟩
    · refine exec_gradingCompletion_found hg hq hstore hreport h ?_ ?_
      · exact State.settleDisposition_of_not_pending _ (by rw [hlate]; exact nofun)
      · exact State.map_disp_record? (State.setQueue_queue _ _) rfl hlate h
    · refine exec_gradingCompletion_found hg hq hstore hreport h ?_ ?_
      · rw [State.settleDisposition, hpending, hcls, State.countGrade_of_none hcls]
        exact State.setDisposition_withResult _ _ h
      · exact State.map_disp_record? (State.setQueue_queue _ _) rfl rfl h
  · exact State.exchangeIfDue_of_not_armed h
  · exact State.exchangeIfDue_of_due h rfl

theorem BinRec.taking_eq (r : BinRec) (c : GradeClass) :
    r.taking c = { r with current := if r.mode = .float ∧ r.current = none then some c else r.current } := by
  unfold BinRec.taking
  split <;> rfl

/-- The entry that the Router writes, and the gate that takes it. -/
theorem Gate.written_cases (g : Gate) (n : StoreNo) (p o c : Pos) :
    ∃ entry : GateEntry, entry = ⟨n, o, c, entry.opened⟩ ∧
      ((g.lead = none ∧ g.written n p o c = { g with lead := some entry, output := entry.opened } ∧
          entry.opened = decide (entry.openPos = p)) ∨
        (g.lead ≠ none ∧ g.written n p o c = { g with follow := some entry } ∧ entry.opened = false)) := by
  unfold Gate.written
  cases hlead : g.lead with
  | none => exact ⟨⟨n, o, c, decide (o = p)⟩, rfl, .inl ⟨rfl, rfl, rfl⟩⟩
  | some e => exact ⟨⟨n, o, c, false⟩, rfl, .inr ⟨nofun, rfl, rfl⟩⟩

/-- Settles O26: the Router's three outcomes, each settled before SHEET DECIDED goes out. -/
theorem completionRoutes : Obligations.CompletionRoutes := by
  intro s g x c front behind r i e hg hx hcls hq hstore hreport hpending h hpaired htrail
  subst hx
  have hcount := State.countGrade_of_some (s := s) hcls
  have hheld : (r.paired.any fun i => s.isHeld i.lot) = decide (i.lot ∈ s.lotHolds) := by
    simp [hpaired, State.isHeld]
  have hchoose : ((s.bump (.graded c)).setQueue (front ++ TrackRec.withResult (s.gradingResult g) r :: behind)).chooseBin
      c r.lead = s.chooseBin c r.lead := rfl
  have hroute {t : State} (ht : ((s.bump (.graded c)).setQueue
      (front ++ TrackRec.withResult (s.gradingResult g) r :: behind)).routeSheet r c = t) :
      ((s.countGrade (s.gradingResult g)).setQueue
        (front ++ TrackRec.withResult (s.gradingResult g) r :: behind)).settleDisposition r (s.gradingResult g) = t := by
    rw [hcount, State.settleDisposition, hpending, hcls]
    exact ht
  refine ⟨fun hlot => ?_, fun hlot hchoice => ?_, fun b hlot hchoice => ?_⟩
  · have hin : (r.paired.any fun i => s.isHeld i.lot) = true := hheld.trans (decide_eq_true hlot)
    refine exec_gradingCompletion_found hg hq hstore hreport h (hroute ?_) ?_
    · rw [State.routeSheet]
      exact (if_pos hin).trans (State.setDisposition_withResult _ _ h)
    · exact State.map_disp_record? (State.setQueue_queue _ _) rfl rfl h
  · have hout : ¬ (r.paired.any fun i => s.isHeld i.lot) = true := by simpa [hheld] using hlot
    refine exec_gradingCompletion_found hg hq hstore hreport h (hroute ?_) ?_
    · rw [State.routeSheet]
      refine (if_neg hout).trans ?_
      rw [hchoose, hchoice]
      exact State.setDisposition_withResult _ _ h
    · exact State.map_disp_record? (State.setQueue_queue _ _) rfl rfl h
  · have hout : ¬ (r.paired.any fun i => s.isHeld i.lot) = true := by simpa [hheld] using hlot
    obtain ⟨entry, hentry, hslot⟩ := (s.gate b).written_cases r.store s.tracker.pos
      (openPosition r.lead (s.bin b).gate s.activeLayout.lead) (closePosition e.pos (s.bin b).gate s.activeLayout.tail)
    refine ⟨entry, _, hentry, hslot, exec_gradingCompletion_found hg hq hstore hreport h (hroute ?_) ?_⟩
    · rw [State.routeSheet]
      refine (if_neg hout).trans ?_
      rw [hchoose, hchoice]
      dsimp only
      rw [State.setDisposition_withResult _ _ h, BinRec.taking_eq, htrail]
      rfl
    · exact State.map_disp_record? (State.setQueue_queue _ _) rfl rfl h

end Sys2Proof.Machine
end

section
/-! The pairing decision (R5, R26 to R30). -/

namespace Sys2Proof.Machine

set_option Elab.async false

open Sys2Proof

/-! ## Sending beside other changes -/

/-- What a record sent leaves depends on the ports alone, and changes the ports alone. -/
theorem State.send_of_ports {s t : State} (h : t.ports = s.ports) (p : Port) (o : OutcomeRec) :
    t.send p o = { t with ports := (s.send p o).ports } := by
  have hport : t.port p = s.port p := by
    cases p <;> simp only [State.port, h]
  unfold State.send
  rw [hport]
  split
  · cases p <;> simp only [State.setPort, h]
  · unfold State.raise
    rw [hport]
    cases p <;> simp only [State.setPort, h]

/-! ## The usable lanes (R10) -/

theorem getLsbD_laneBit (i j : LaneId) : (1#8 <<< j.val).getLsbD i.val = decide (i = j) := by
  revert i j
  decide

theorem getLsbD_foldl_laneBit (c : LaneId → Bool) (l : List LaneId) (m : BitVec 8) (i : LaneId) :
    (l.foldl (fun m j => if c j then m ||| (1#8 <<< j.val) else m) m).getLsbD i.val =
      (m.getLsbD i.val || (decide (i ∈ l) && c i)) := by
  induction l generalizing m with
  | nil => simp
  | cons j l ih =>
    have hbit : (m ||| (1#8 <<< j.val)).getLsbD i.val = (m.getLsbD i.val || decide (i = j)) := by
      rw [BitVec.getLsbD_or, getLsbD_laneBit]
    rw [List.foldl_cons, ih]
    by_cases hij : i = j
    · subst hij
      cases c i <;> simp
    · cases c j <;> simp only [Bool.false_eq_true, if_true, if_false, hbit] <;> simp [hij]

theorem State.getLsbD_usableLanes (s : State) (r : Report) (i : LaneId) :
    (s.usableLanes r).getLsbD i.val = (r.mask.getLsbD i.val && s.lanes[i].state.usable) := by
  rw [State.usableLanes, getLsbD_foldl_laneBit]
  simp [mem_lanesInOrder]

/-! ## The decision (R26 to R29) -/

section Decision

variable {s : State} {r : Report} {rest : List Report}

theorem TrackRec.fits_iff {x : TrackRec} {e : Trail} (h : x.trail = some e) (tolerance len : Nat) :
    x.fits tolerance len = true ↔ e.eyeLength ≤ len + tolerance ∧ len ≤ e.eyeLength + tolerance := by
  simp only [TrackRec.fits, h, Option.any_some, Bool.and_eq_true, decide_eq_true_eq]
  omega

theorem TrackRec.fits_of_no_trail {x : TrackRec} (h : x.trail = none) (tolerance len : Nat) :
    x.fits tolerance len = false := by
  simp [TrackRec.fits, h]

theorem exec_pairingDecision_deferred {c1 : TrackRec} {more : List TrackRec} (hc : s.candidates = c1 :: more)
    (hopen : c1.trail = none) : exec .pairingDecision s = .next s := by
  have hdue : s.pairingDue = false := by simp [State.pairingDue, State.deferred, hc, hopen]
  change Host.Outcome.next s.pairingEvent = _
  rw [State.pairingEvent, hdue]
  rfl

theorem exec_pairingDecision (hr : s.reports = r :: rest) (he : s.engine = none) (hd : s.deferred = false) :
    exec .pairingDecision s = .next ((s.decidePairing r rest).takeConditions s) := by
  have hdue : s.pairingDue = true := by simp [State.pairingDue, hr, he, hd]
  change Host.Outcome.next s.pairingEvent = _
  rw [State.pairingEvent, if_pos hdue, hr]

theorem State.deferred_of_nil (hc : s.candidates = []) : s.deferred = false := by simp [State.deferred, hc]

theorem State.deferred_of_trail {c1 : TrackRec} {more : List TrackRec} {e : Trail} (hc : s.candidates = c1 :: more)
    (he : c1.trail = some e) : s.deferred = false := by simp [State.deferred, hc, he]

theorem State.decidePairing_first {c1 : TrackRec} {more : List TrackRec} (hc : s.candidates = c1 :: more)
    (hfits : c1.fits s.activeLayout.tolerance r.length = true) : s.decidePairing r rest = s.pairWith r rest c1.store := by
  rw [State.decidePairing, hc]
  exact if_pos hfits

theorem State.decidePairing_second {c1 c2 : TrackRec} {more : List TrackRec} (hc : s.candidates = c1 :: c2 :: more)
    (hfirst : ¬ c1.fits s.activeLayout.tolerance r.length = true)
    (hfits : c2.fits s.activeLayout.tolerance r.length = true) :
    s.decidePairing r rest = (s.skip c1).pairWith r rest c2.store := by
  rw [State.decidePairing, hc]
  exact (if_neg hfirst).trans (if_pos hfits)

theorem State.decidePairing_orphan {c1 : TrackRec} {more : List TrackRec} (hc : s.candidates = c1 :: more)
    (hfirst : ¬ c1.fits s.activeLayout.tolerance r.length = true)
    (hsecond : ∀ c2 more', more = c2 :: more' → ¬ c2.fits s.activeLayout.tolerance r.length = true) :
    s.decidePairing r rest = s.orphan r rest := by
  rw [State.decidePairing, hc]
  refine (if_neg hfirst).trans ?_
  cases more with
  | nil => rfl
  | cons c2 more' => exact if_neg (hsecond c2 more' rfl)

theorem State.decidePairing_nil (hc : s.candidates = []) : s.decidePairing r rest = s.orphan r rest := by
  rw [State.decidePairing, hc]

end Decision

/-! ## What a pairing leaves (R28, R30, R36) -/

section Pairing

variable {s : State} {r : Report} {rest : List Report}

/-- A record skipped and another paired, in one pass over the queue. -/
theorem changeRecord_pair_skip {n m : StoreNo} (h : m ≠ n) (r : Report) (q : List TrackRec) :
    changeRecord m (TrackRec.pairedWith r) (changeRecord n TrackRec.skippedBy q) =
      q.map fun x =>
        if x.store = n then
          { x with report := .skipped, disp := if x.disp = .pending then .runout .unreported else x.disp }
        else if x.store = m then
          { x with report := .grading, paired := some ⟨r.lineId, r.lot, r.species, r.length⟩ }
        else x := by
  unfold changeRecord
  rw [List.map_map]
  refine List.map_congr_left fun x _ => ?_
  by_cases hn : x.store = n
  · have hm : ¬ n = m := fun hnm => h hnm.symm
    simp [hn, TrackRec.skippedBy, hm]
  · simp [hn, TrackRec.pairedWith]

theorem State.pairWith_eq (n : StoreNo) :
    ∃ usable : BitVec 8,
      (∀ i : LaneId, usable.getLsbD i.val =
        (r.mask.getLsbD i.val && ((s.updateLanes r).lanes[i]).state.usable)) ∧
      s.pairWith r rest n =
        { s.updateLanes r with
          reports := rest
          tracker := { s.tracker with
            queue := s.tracker.queue.map fun x =>
              if x.store = n then
                { x with report := .grading, paired := some ⟨r.lineId, r.lot, r.species, r.length⟩ }
              else x }
          engine := some ⟨r, n, usable, laneCountOf usable, laneCountOf r.mask, s.rules.active, s.rules.serial⟩ } :=
  ⟨(s.updateLanes r).usableLanes r, State.getLsbD_usableLanes _ r, rfl⟩

theorem State.skip_pairWith_eq {c1 : TrackRec} {e1 : Trail} (he : c1.trail = some e1) {n : StoreNo} (hn : n ≠ c1.store) :
    ∃ usable : BitVec 8,
      (∀ i : LaneId, usable.getLsbD i.val =
        (r.mask.getLsbD i.val && ((s.updateLanes r).lanes[i]).state.usable)) ∧
      (s.skip c1).pairWith r rest n =
        { (s.updateLanes r).send .line (.sheetUnreported c1.store c1.lead e1.eyeLength) with
          reports := rest
          tracker := { s.tracker with
            queue := s.tracker.queue.map fun x =>
              if x.store = c1.store then
                { x with report := .skipped, disp := if x.disp = .pending then .runout .unreported else x.disp }
              else if x.store = n then
                { x with report := .grading, paired := some ⟨r.lineId, r.lot, r.species, r.length⟩ }
              else x }
          engine := some ⟨r, n, usable, laneCountOf usable, laneCountOf r.mask, s.rules.active, s.rules.serial⟩ } := by
  refine ⟨(s.updateLanes r).usableLanes r, State.getLsbD_usableLanes _ r, ?_⟩
  rw [← changeRecord_pair_skip hn, State.skip, he, Option.elim_some, State.send_of_ports (t := s.setQueue (changeRecord c1.store TrackRec.skippedBy s.tracker.queue)) (s := s) rfl,
    State.send_of_ports (t := s.updateLanes r) (s := s) rfl]
  rfl

end Pairing

/-- Settles O23: the head report's length against the first two candidates. -/
theorem pairingDecision : Obligations.PairingDecision := by
  intro s r rest hr he _
  refine ⟨fun c1 more hc => exec_pairingDecision_deferred hc, fun c1 more e1 hc he1 => ?_, fun hc => ?_⟩
  · rw [exec_pairingDecision hr he (State.deferred_of_trail hc he1)]
    have hfits1 := TrackRec.fits_iff he1 s.activeLayout.tolerance r.length
    refine ⟨fun hfit => ?_, fun hnot => ⟨fun c2 more' e2 hmore hstore he2 hle hge => ?_, fun hsecond => ?_⟩⟩
    · obtain ⟨usable, husable, hpair⟩ := State.pairWith_eq (s := s) (r := r) (rest := rest) c1.store
      exact ⟨usable, husable, by rw [State.decidePairing_first hc (hfits1.2 hfit), hpair]⟩
    · subst hmore
      obtain ⟨usable, husable, hpair⟩ := State.skip_pairWith_eq (s := s) (r := r) (rest := rest) he1 hstore
      have hfits2 := (TrackRec.fits_iff he2 s.activeLayout.tolerance r.length).2 ⟨hle, hge⟩
      exact ⟨usable, husable, by
        rw [State.decidePairing_second hc (fun hfit => hnot (hfits1.1 hfit)) hfits2, hpair]⟩
    · rw [State.decidePairing_orphan hc (fun hfit => hnot (hfits1.1 hfit)) fun c2 more' hmore => ?_]
      · rfl
      · cases he2 : c2.trail with
        | none => simp [TrackRec.fits_of_no_trail he2]
        | some e2 =>
          rw [TrackRec.fits_iff he2]
          exact hsecond c2 more' e2 hmore he2
  · rw [exec_pairingDecision hr he (State.deferred_of_nil hc), State.decidePairing_nil hc]
    rfl

end Sys2Proof.Machine
end

section
/-! The conveyor accounts: encoder pulses, the reversal fault and LINE RESTART (R16 to R18, R31, R38, R90). -/

namespace Sys2Proof.Machine

set_option Elab.async false

open Sys2Proof

/-! ## What the events of a position can change (R17) -/

/-- A search round changes the bins, the feeders, the first turn and the ports alone. -/
theorem State.RoundFrame.eq {s t : State} (h : s.RoundFrame t) :
    t = { s with bins := t.bins, feeders := t.feeders, firstTurn := t.firstTurn, ports := t.ports } := by
  obtain ⟨hmode, hpending, hactive, htracker, hreports, hlanes, hengine, hrules, hgates, hholds, hcounters, hnow, hqueue,
    -, -, -, -⟩ := h
  rw [← hmode, ← hpending, ← hactive, ← htracker, ← hreports, ← hlanes, ← hengine, ← hrules, ← hgates, ← hholds,
    ← hcounters, ← hnow, ← hqueue]

/-- The events of a position change the tracking queue, the store, the feeders, the ports and the counters alone. -/
def State.PositionFrame (s t : State) : Prop :=
  t = { s with
    tracker := { s.tracker with queue := t.tracker.queue }
    gates := t.gates, bins := t.bins, feeders := t.feeders, firstTurn := t.firstTurn, ports := t.ports
    counters := t.counters }

theorem State.PositionFrame.refl (s : State) : s.PositionFrame s := rfl

theorem State.PositionFrame.trans {s t u : State} (h : s.PositionFrame t) (h' : t.PositionFrame u) : s.PositionFrame u := by
  unfold State.PositionFrame at *
  rw [h', h]

theorem State.PositionFrame.foldl {α : Type} {f : State → α → State} (h : ∀ t a, State.PositionFrame t (f t a))
    (l : List α) (s : State) : s.PositionFrame (l.foldl f s) := by
  induction l generalizing s with
  | nil => rfl
  | cons a l ih => exact (h s a).trans (ih (f s a))

theorem State.RoundFrame.position {s t : State} (h : s.RoundFrame t) : s.PositionFrame t := by
  rw [h.eq]
  rfl

theorem positionFrame_send (s : State) (p : Port) (o : OutcomeRec) : s.PositionFrame (s.send p o) := by
  rw [State.send_of_ports (t := s) rfl p o]
  rfl

theorem positionFrame_longObjectEvent (s : State) : s.PositionFrame s.longObjectEvent := by
  unfold State.longObjectEvent
  split <;> rfl

theorem positionFrame_expiryEvent (s : State) (n : StoreNo) : s.PositionFrame (s.expiryEvent n) := by
  unfold State.expiryEvent
  split
  · rfl
  · split
    · dsimp only
      split <;> rfl
    · rfl

theorem positionFrame_gateOpenEvent (s : State) (b : BinId) : s.PositionFrame (s.gateOpenEvent b) := by
  unfold State.gateOpenEvent
  split <;> rfl

theorem positionFrame_gateCloseEvent (s : State) (b : BinId) : s.PositionFrame (s.gateCloseEvent b) := by
  unfold State.gateCloseEvent
  split
  · split
    · unfold State.closeGate
      dsimp only
      split
      · rfl
      · refine .trans (t := (((s.setGate b (s.gate b).closed).setQueue _).bump .lostAtGateClose).floatRelease b) rfl ?_
        split
        · exact (State.roundFrame_searchRound _).position
        · rfl
    · rfl
  · rfl

theorem positionFrame_countRunout (s : State) (d : Disposition) : s.PositionFrame (s.countRunout d) := by
  unfold State.countRunout
  split <;> rfl

theorem positionFrame_reportUnpaired (s : State) (r : TrackRec) : s.PositionFrame (s.reportUnpaired r) := by
  unfold State.reportUnpaired
  split
  · split
    · rfl
    · exact .trans (t := s.bump .unreported) rfl (positionFrame_send _ _ _)
  all_goals rfl

theorem positionFrame_endOfLineEvent (s : State) (n : StoreNo) : s.PositionFrame (s.endOfLineEvent n) := by
  unfold State.endOfLineEvent
  split
  · rfl
  · split
    · refine .trans ?_ (positionFrame_reportUnpaired _ _)
      exact .trans (t := s.setQueue (removeRecord n s.tracker.queue)) rfl (positionFrame_countRunout _ _)
    · rfl

theorem positionFrame_settlePosition (s : State) : s.PositionFrame s.settlePosition := by
  unfold State.settlePosition
  dsimp only
  refine .trans ?_ (.foldl positionFrame_endOfLineEvent _ _)
  refine .trans ?_ (.foldl positionFrame_gateCloseEvent _ _)
  refine .trans ?_ (.foldl positionFrame_gateOpenEvent _ _)
  exact (positionFrame_longObjectEvent s).trans (.foldl positionFrame_expiryEvent _ _)

/-! ## Pulses (R16, R17) -/

section Pulses

variable {s : State}

theorem exec_encPulse_forward (s : State) : exec (.encPulse .forward) s = .next s.settlePosition.forwardPulse := rfl

theorem exec_encPulse_reverse (s : State) : exec (.encPulse .reverse) s = .next s.settlePosition.reversePulse := rfl

/-- A forward pulse changes the tracker alone, by the count, the residue, the backlash and the eye. -/
theorem State.forwardPulse_eq (s : State) :
    s.forwardPulse = { s with tracker := { s.tracker with
      residue := if s.tracker.residue + 1 < s.activeLayout.divide then s.tracker.residue + 1 else 0
      backlash := if s.tracker.residue + 1 < s.activeLayout.divide then s.tracker.backlash else s.tracker.backlash - 1
      pos := if s.tracker.residue + 1 < s.activeLayout.divide ∨ 0 < s.tracker.backlash then s.tracker.pos
        else s.tracker.pos + 1
      eye := if s.tracker.residue + 1 < s.activeLayout.divide ∨ 0 < s.tracker.backlash then s.tracker.eye
        else s.tracker.eye.counted } } := by
  unfold State.forwardPulse
  by_cases hstep : s.activeLayout.divide ≤ s.tracker.residue + 1
  · have hnot : ¬ s.tracker.residue + 1 < s.activeLayout.divide := Nat.not_lt.2 hstep
    rw [if_pos hstep]
    by_cases hback : 0 < s.tracker.backlash
    · simp [hnot, hback, State.setResidue, Tracker.forwardStep]
    · have hzero : s.tracker.backlash = 0 := Nat.eq_zero_of_not_pos hback
      simp [hnot, hzero, State.setResidue, Tracker.forwardStep]
  · rw [if_neg hstep]
    simp [Nat.lt_of_not_le hstep, State.setResidue]

/-- A reverse pulse that is no reversal fault changes the residue and the backlash alone. -/
theorem State.reversePulse_eq {s : State} (h : 0 < s.tracker.residue ∨ s.tracker.backlash < 200) :
    s.reversePulse = { s with tracker := { s.tracker with
      residue := if s.tracker.residue = 0 then s.activeLayout.divide - 1 else s.tracker.residue - 1
      backlash := if s.tracker.residue = 0 then s.tracker.backlash + 1 else s.tracker.backlash } } := by
  unfold State.reversePulse
  by_cases hzero : s.tracker.residue = 0
  · have hback : (s.setResidue (s.activeLayout.divide - 1)).tracker.backlash < Config.backlashMax :=
      h.resolve_left (by omega)
    rw [if_pos hzero, State.reverseStep, if_pos hback]
    simp [hzero, State.setResidue]
  · simp [hzero, State.setResidue]

theorem exec_encPulse_forward_spec (s : State) :
    ∃ t, exec (.encPulse .forward) s = .next t ∧
      t.tracker.residue = (if s.tracker.residue + 1 < s.activeLayout.divide then s.tracker.residue + 1 else 0) ∧
      t.tracker.backlash = (if s.tracker.residue + 1 < s.activeLayout.divide then s.tracker.backlash
        else s.tracker.backlash - 1) ∧
      t.tracker.pos = (if s.tracker.residue + 1 < s.activeLayout.divide ∨ 0 < s.tracker.backlash then s.tracker.pos
        else s.tracker.pos + 1) ∧
      (s.Settled →
        t = { s with tracker := { s.tracker with
          residue := t.tracker.residue, backlash := t.tracker.backlash, pos := t.tracker.pos
          eye := if s.tracker.residue + 1 < s.activeLayout.divide ∨ 0 < s.tracker.backlash then s.tracker.eye
            else match s.tracker.eye with
              | .blockedTracked n => .blockedTracked (min (n + 1) 65535)
              | .clear => .clear
              | .blockedUntracked => .blockedUntracked } }) := by
  have hcounted (e : EyeState) : e.counted = (match e with
      | .blockedTracked n => .blockedTracked (min (n + 1) 65535)
      | .clear => .clear
      | .blockedUntracked => .blockedUntracked) := by cases e <;> rfl
  refine ⟨_, exec_encPulse_forward s, ?_, ?_, ?_, fun hs => ?_⟩
  case refine_4 =>
    rw [State.settlePosition_of_settled hs, State.forwardPulse_eq, hcounted]
  all_goals
    rw [State.forwardPulse_eq, positionFrame_settlePosition s]

theorem exec_encPulse_reverse_spec (h : 0 < s.tracker.residue ∨ s.tracker.backlash < 200) :
    ∃ t, exec (.encPulse .reverse) s = .next t ∧
      t.tracker.residue = (if s.tracker.residue = 0 then s.activeLayout.divide - 1 else s.tracker.residue - 1) ∧
      t.tracker.backlash = (if s.tracker.residue = 0 then s.tracker.backlash + 1 else s.tracker.backlash) ∧
      t.tracker.pos = s.tracker.pos ∧
      (s.Settled →
        t = { s with tracker := { s.tracker with residue := t.tracker.residue, backlash := t.tracker.backlash } }) := by
  have hsettled : 0 < s.settlePosition.tracker.residue ∨ s.settlePosition.tracker.backlash < 200 := by
    rw [positionFrame_settlePosition s]
    exact h
  refine ⟨_, exec_encPulse_reverse s, ?_, ?_, ?_, fun hs => ?_⟩
  case refine_4 => rw [State.settlePosition_of_settled hs, State.reversePulse_eq h]
  all_goals
    rw [State.reversePulse_eq hsettled, positionFrame_settlePosition s]

end Pulses

/-! ## The conveyor emptied (R18, R31, R90, R115) -/

theorem EyeState.untracked_eq (e : EyeState) :
    e.untracked = (match e with
      | .clear => .clear
      | .blockedTracked _ => .blockedUntracked
      | .blockedUntracked => .blockedUntracked) := by cases e <;> rfl

theorem State.gate_clearConveyor (s : State) (b : BinId) : s.clearConveyor.gate b = ⟨none, none, false⟩ :=
  congrArg Site.gate (s.site_clearConveyor b)

/-- A FLOAT bin left with nothing has no class. -/
theorem State.bin_clearConveyor (s : State) (b : BinId) :
    s.clearConveyor.bin b = { s.bin b with
      current := if (s.bin b).mode = .float ∧ (s.bin b).stack = [] ∧ (s.bin b).inFlight = [] ∧
        (s.bin b).questioned = none then none else (s.bin b).current } := by
  have hbin : s.clearConveyor.bin b = (s.bin b).floatRelease (s.bin b).inFlight.length := by
    refine (congrArg Site.bin (s.site_clearConveyor b)).trans (congrArg (BinRec.floatRelease _) ?_)
    exact Nat.zero_add _
  rw [hbin, BinRec.floatRelease]
  simp only [List.length_eq_zero_iff]
  split <;> rfl

/-- A bin's inbound count has reached 0 with the gates: its in-flight list was empty, and an entry stood. -/
theorem State.someInboundGone_iff {s u : State} (hg : ∀ b, u.gate b = ⟨none, none, false⟩)
    (hb : ∀ b, (u.bin b).inFlight = (s.bin b).inFlight) :
    u.someInboundGone s = true ↔ ∃ b, 0 < s.inbound b ∧ (s.bin b).inFlight = [] := by
  have hinbound (b : BinId) : u.inbound b = (s.bin b).inFlight.length := by
    rw [State.inbound, hg, hb]
    exact Nat.zero_add _
  simp [State.someInboundGone, mem_binsInOrder, hinbound]

/-- What a round leaves of the parts that an emptied conveyor speaks of. -/
theorem State.roundFrame_roundIfInboundGone (u before : State) : u.RoundFrame (u.roundIfInboundGone before) :=
  .ite (.refl u) (State.roundFrame_searchRound u)

theorem State.roundIfInboundGone_spec {s u : State} (hg : ∀ b, u.gate b = ⟨none, none, false⟩)
    (hb : ∀ b, (u.bin b).inFlight = (s.bin b).inFlight) :
    ((∃ b, 0 < s.inbound b ∧ (s.bin b).inFlight = []) → u.roundIfInboundGone s = u.searchRound) ∧
      (¬(∃ b, 0 < s.inbound b ∧ (s.bin b).inFlight = []) → u.roundIfInboundGone s = u) := by
  have hgone := State.someInboundGone_iff hg hb
  exact ⟨fun h => if_pos (hgone.2 h), fun h => if_neg fun h' => h (hgone.1 h')⟩

/-- A flag other than OUTCOME_LOST stands after a round as it stood before it. -/
theorem State.RoundFrame.flag {s t : State} (h : s.RoundFrame t) (p : Port) {i : Nat} (hi : i ≠ 1) :
    (t.port p).flags.getLsbD i = (s.port p).flags.getLsbD i ∧ (t.port p).seen.getLsbD i = (s.port p).seen.getLsbD i := by
  cases p with
  | line =>
    rw [show t.port .line = s.port .line from h.line]
    exact ⟨rfl, rfl⟩
  | feeder f =>
    obtain ⟨-, -, -, hbits⟩ := h.ports f
    exact hbits i hi

theorem State.RoundFrame.bin_fields {s t : State} (h : s.RoundFrame t) (b : BinId) :
    (t.bin b).inFlight = (s.bin b).inFlight ∧ (t.bin b).state = (s.bin b).state ∧
      (t.bin b).questioned = (s.bin b).questioned ∧
      (t.bin b).stack.map Sheet.unmarked = (s.bin b).stack.map Sheet.unmarked := by
  obtain ⟨hbin, hstack⟩ := h.bins b
  refine ⟨?_, ?_, ?_, hstack⟩ <;> rw [hbin]

/-- A flag raised on every port stands there unseen. -/
theorem State.port_raiseAll_flag (s : State) (g : Flag) (p : Port) :
    ((s.raiseAll g).port p).flags.getLsbD g.index = true ∧ ((s.raiseAll g).port p).seen.getLsbD g.index = false := by
  rw [State.port_raiseAll, PortRec.getLsbD_raise_flags, PortRec.getLsbD_raise_seen]
  simp

/-! ## The reversal fault (R18) -/

/-- What the reversal fault leaves before its search round. -/
def State.reversed (s : State) : State :=
  ((s.setResidue (s.activeLayout.divide - 1)).clearConveyor.bumpBy .reversalLosses s.tracker.queue.length).raiseAll .reversal

theorem State.reversePulse_of_fault {s : State} (hzero : s.tracker.residue = 0) (hback : s.tracker.backlash = 200) :
    s.reversePulse = s.reversed.roundIfInboundGone s := by
  have hfault : ¬ (s.setResidue (s.activeLayout.divide - 1)).tracker.backlash < Config.backlashMax := by
    change ¬ s.tracker.backlash < 200
    omega
  rw [State.reversePulse, if_pos hzero, State.reverseStep, if_neg hfault]
  rfl

theorem State.gate_reversed (s : State) (b : BinId) : s.reversed.gate b = ⟨none, none, false⟩ :=
  State.gate_clearConveyor (s.setResidue (s.activeLayout.divide - 1)) b

theorem State.bin_reversed (s : State) (b : BinId) :
    s.reversed.bin b = { s.bin b with
      current := if (s.bin b).mode = .float ∧ (s.bin b).stack = [] ∧ (s.bin b).inFlight = [] ∧
        (s.bin b).questioned = none then none else (s.bin b).current } :=
  State.bin_clearConveyor (s.setResidue (s.activeLayout.divide - 1)) b

theorem exec_reversalFault_spec {s : State} (hzero : s.tracker.residue = 0) (hback : s.tracker.backlash = 200) :
    ∃ t, exec .reversalFault s = .next t ∧ exec (.encPulse .reverse) s = .next t ∧
      t.tracker = { s.tracker with
        residue := s.activeLayout.divide - 1, backlash := 0, queue := []
        eye := match s.tracker.eye with
          | .clear => .clear
          | .blockedTracked _ => .blockedUntracked
          | .blockedUntracked => .blockedUntracked } ∧
      (∀ b : BinId, t.gate b = ⟨none, none, false⟩) ∧
      (∀ p : Port, (t.port p).flags.getLsbD 8 = true ∧ (t.port p).seen.getLsbD 8 = false) ∧
      t.reports = s.reports ∧ t.engine = s.engine ∧ t.lanes = s.lanes ∧ t.rules = s.rules ∧ t.lotHolds = s.lotHolds ∧
      t.mode = s.mode ∧ t.pendingLayout = s.pendingLayout ∧ t.activeLayout = s.activeLayout ∧
      (s.Settled →
        (∀ b : BinId, (t.bin b).inFlight = (s.bin b).inFlight ∧ (t.bin b).state = (s.bin b).state ∧
          (t.bin b).questioned = (s.bin b).questioned ∧
          (t.bin b).stack.map Sheet.unmarked = (s.bin b).stack.map Sheet.unmarked) ∧
        t.counters = (s.bumpBy .reversalLosses s.tracker.queue.length).counters ∧
        ∃ u : State, u = { s with
            tracker := t.tracker, gates := t.gates, counters := t.counters, bins := u.bins
            ports := (s.raiseAll .reversal).ports } ∧
          (∀ b : BinId, u.bin b = { s.bin b with
            current := if (s.bin b).mode = .float ∧ (s.bin b).stack = [] ∧ (s.bin b).inFlight = [] ∧
                (s.bin b).questioned = none then none else (s.bin b).current }) ∧
          ((∃ b, 0 < s.inbound b ∧ (s.bin b).inFlight = []) → t = u.searchRound) ∧
          (¬(∃ b, 0 < s.inbound b ∧ (s.bin b).inFlight = []) → t = u)) := by
  have hdue : s.reversalDue = true := by simp [State.reversalDue, hzero, hback, Config.backlashMax]
  have hsettled : s.settlePosition.tracker.residue = 0 ∧ s.settlePosition.tracker.backlash = 200 := by
    rw [positionFrame_settlePosition s]
    exact ⟨hzero, hback⟩
  have hpulse := State.reversePulse_of_fault hsettled.1 hsettled.2
  have hframe := State.roundFrame_roundIfInboundGone s.settlePosition.reversed s.settlePosition
  have hposition := positionFrame_settlePosition s
  rw [← hpulse] at hframe
  refine ⟨s.settlePosition.reversePulse, congrArg Host.Outcome.next (if_pos hdue), rfl, ?_, fun b => ?_, fun p => ?_, ?_, ?_,
    ?_, ?_, ?_, ?_, ?_, ?_, fun hs => ?_⟩
  · rw [hframe.tracker, ← EyeState.untracked_eq, hposition]
    rfl
  · rw [State.gate_congr hframe.gates, State.gate_reversed]
  · obtain ⟨hflag, hseen⟩ := hframe.flag p (i := 8) (by decide)
    rw [hflag, hseen]
    exact State.port_raiseAll_flag _ .reversal p
  · rw [hframe.reports, hposition]; rfl
  · rw [hframe.engine, hposition]; rfl
  · rw [hframe.lanes, hposition]; rfl
  · rw [hframe.rules, hposition]; rfl
  · rw [hframe.lotHolds, hposition]; rfl
  · rw [hframe.mode, hposition]; rfl
  · rw [hframe.pendingLayout, hposition]; rfl
  · rw [hframe.activeLayout, hposition]; rfl
  · rw [State.settlePosition_of_settled hs] at hframe hpulse ⊢
    have hinFlight (b : BinId) : (s.reversed.bin b).inFlight = (s.bin b).inFlight := by rw [State.bin_reversed]
    refine ⟨fun b => ?_, hframe.counters, s.reversed, ?_, s.bin_reversed, ?_⟩
    · have hkept := hframe.bin_fields b
      rw [State.bin_reversed] at hkept
      exact hkept
    · rw [hframe.tracker, hframe.gates, hframe.counters]
      rfl
    · rw [hpulse]
      exact State.roundIfInboundGone_spec s.gate_reversed hinFlight

/-- Settles O19. -/
theorem encoderPulsesAndReversalFault : Obligations.EncoderPulsesAndReversalFault :=
  ⟨fun s => ⟨exec_encPulse_forward_spec s, exec_encPulse_reverse_spec⟩, fun _ => exec_reversalFault_spec⟩

end Sys2Proof.Machine
end

section
/-! LINE RESTART (R31, R38, R90). -/

namespace Sys2Proof.Machine

set_option Elab.async false

open Sys2Proof

/-- What a LINE RESTART leaves before the exchange of an armed swap. -/
def State.lineCleared (s : State) : State :=
  { s.clearConveyor with reports := [], engine := none }.bumpBy .restartLosses s.tracker.queue.length

/-- What a LINE RESTART leaves before its search round. -/
def State.restarted (s : State) : State := s.lineCleared.exchangeIfDue

theorem State.restartLine_eq (s : State) : s.restartLine = s.restarted.roundIfInboundGone s := rfl

theorem State.restarted_of_armed {s : State} (h : s.rules.armed = true) : s.restarted = s.lineCleared.exchange :=
  State.exchangeIfDue_of_due h rfl

theorem State.restarted_of_not_armed {s : State} (h : s.rules.armed = false) : s.restarted = s.lineCleared :=
  State.exchangeIfDue_of_not_armed h

/-- The whole of what a LINE RESTART leaves before its search round, but for the bins. -/
theorem State.restarted_eq (s : State) :
    s.restarted = { s with
      tracker := { s.tracker with
        backlash := 0, queue := []
        eye := s.tracker.eye.untracked }
      reports := [], engine := none
      rules := if s.rules.armed then
          { s.rules with active := s.rules.active.other, armed := false, serial := s.rules.serial + 1 }
        else s.rules
      gates := s.clearConveyor.gates, counters := (s.bumpBy .restartLosses s.tracker.queue.length).counters
      bins := s.restarted.bins
      ports := if s.rules.armed then (s.raiseAll .swapDone).ports else s.ports } := by
  cases h : s.rules.armed with
  | true =>
    rw [State.restarted_of_armed h]
    rfl
  | false =>
    rw [State.restarted_of_not_armed h]
    rfl

theorem State.bin_restarted (s : State) (b : BinId) :
    s.restarted.bin b = { s.bin b with
      current := if (s.bin b).mode = .float ∧ (s.bin b).stack = [] ∧ (s.bin b).inFlight = [] ∧
        (s.bin b).questioned = none then none else (s.bin b).current } := by
  have hbin : s.restarted.bin b = s.clearConveyor.bin b := by
    cases h : s.rules.armed with
    | true => rw [State.restarted_of_armed h]; rfl
    | false => rw [State.restarted_of_not_armed h]; rfl
  rw [hbin, s.bin_clearConveyor]

theorem State.gate_restarted (s : State) (b : BinId) : s.restarted.gate b = ⟨none, none, false⟩ := by
  rw [s.restarted_eq]
  exact s.gate_clearConveyor b

/-- Settles O24. -/
theorem lineRestart : Obligations.LineRestart := by
  intro p f s h
  refine ⟨fun hf => exec_answer rfl h (show lineRestartBody p f.payload s = refuse .badArg s from
    withoutPayload_cons hf _ _), fun hf => ?_⟩
  have hframe : s.restarted.RoundFrame s.restartLine := s.restarted.roundFrame_roundIfInboundGone s
  have heq := s.restarted_eq
  refine ⟨s.restartLine, exec_answer rfl h ?_, ?_, ?_, ?_, ?_, fun harmed q => ?_, fun b => ?_, ?_, ?_, ?_, ?_, ?_, ?_,
    s.restarted, ?_, s.bin_restarted, ?_⟩
  · change lineRestartBody p f.payload s = _
    rw [hf, lineRestartBody, withoutPayload_nil]
  · exact hframe.reports.trans (congrArg State.reports heq :)
  · exact hframe.engine.trans (congrArg State.engine heq :)
  · have htracker : s.restarted.tracker = { s.tracker with backlash := 0, queue := [], eye := s.tracker.eye.untracked } :=
      congrArg State.tracker heq
    exact (hframe.tracker.trans htracker).trans
      (congrArg (fun e => { s.tracker with backlash := 0, queue := [], eye := e }) s.tracker.eye.untracked_eq)
  · exact hframe.rules.trans (congrArg State.rules heq :)
  · obtain ⟨hflag, hseen⟩ := hframe.flag q (i := 9) (by decide)
    rw [hflag, hseen, State.restarted_of_armed harmed]
    exact State.port_raiseAll_flag _ .swapDone q
  · have hkept := hframe.bin_fields b
    rw [State.bin_restarted] at hkept
    exact ⟨(State.gate_congr hframe.gates b).trans (s.gate_restarted b), hkept⟩
  · exact hframe.counters.trans (congrArg State.counters heq :)
  · exact hframe.lanes.trans (congrArg State.lanes heq :)
  · exact hframe.lotHolds.trans (congrArg State.lotHolds heq :)
  · exact hframe.mode.trans (congrArg State.mode heq :)
  · exact hframe.pendingLayout.trans (congrArg State.pendingLayout heq :)
  · exact hframe.activeLayout.trans (congrArg State.activeLayout heq :)
  · rw [hframe.tracker, hframe.rules, hframe.gates, hframe.counters, congrArg State.tracker heq,
      congrArg State.rules heq, congrArg State.gates heq, congrArg State.counters heq]
    exact heq
  · have hinFlight (b : BinId) : (s.restarted.bin b).inFlight = (s.bin b).inFlight := by rw [s.bin_restarted]
    exact State.roundIfInboundGone_spec s.gate_restarted hinFlight

end Sys2Proof.Machine
end

section
/-! The grading computation (R39 to R52): the tests, the width class, the figures with their bounds, and the class decision. -/

namespace Sys2Proof.Machine

set_option Elab.async false

open Sys2Proof

/-! ## The tests and the width class (R42, R48) -/

theorem firstFailing_iff (l : GradeLimits) (x : Figures) :
    (firstFailing l x = .knot ↔ l.knotMax < x.knot) ∧
      (firstFailing l x = .opening ↔ x.knot ≤ l.knotMax ∧ l.openMax < x.openings) ∧
      (firstFailing l x = .split ↔ x.knot ≤ l.knotMax ∧ x.openings ≤ l.openMax ∧ l.splitMax < x.split) ∧
      (firstFailing l x = .stain ↔ x.knot ≤ l.knotMax ∧ x.openings ≤ l.openMax ∧ x.split ≤ l.splitMax ∧
        x.stained = true ∧ l.stainOk = false) ∧
      (firstFailing l x = .density ↔ x.knot ≤ l.knotMax ∧ x.openings ≤ l.openMax ∧ x.split ≤ l.splitMax ∧
        (x.stained = true → l.stainOk = true) ∧ l.densityMax < x.density) ∧
      (firstFailing l x = .none ↔ x.knot ≤ l.knotMax ∧ x.openings ≤ l.openMax ∧ x.split ≤ l.splitMax ∧
        (x.stained = true → l.stainOk = true) ∧ x.density ≤ l.densityMax) := by
  unfold firstFailing
  refine ⟨?_, ?_, ?_, ?_, ?_, ?_⟩ <;> grind

theorem widthClass_cases (k : Bank) (w : Nat) :
    (k.wFull ≤ w → widthClass k w = .full) ∧ (w < k.wFull → k.wHalf ≤ w → widthClass k w = .half) ∧
      (w < k.wFull → w < k.wHalf → widthClass k w = .strip) := by
  unfold widthClass
  refine ⟨?_, ?_, ?_⟩ <;> grind

/-! ## The greatest of a list (R40, R46) -/

theorem greatest_cons (a : Nat) (l : List Nat) : greatest (a :: l) = max a (greatest l) := by
  have hfold (l : List Nat) (a : Nat) : l.foldl max a = max a (l.foldl max 0) := by
    induction l generalizing a with
    | nil => simp
    | cons b l ih => rw [List.foldl_cons, List.foldl_cons, ih, ih (max 0 b), Nat.zero_max, max_assoc]
  rw [greatest, List.foldl_cons, hfold, Nat.zero_max, greatest]

theorem le_greatest {a : Nat} {l : List Nat} (h : a ∈ l) : a ≤ greatest l := by
  induction l with
  | nil => cases h
  | cons b l ih =>
    rw [greatest_cons]
    rcases List.mem_cons.1 h with rfl | h
    · exact le_max_left _ _
    · exact (ih h).trans (le_max_right _ _)

theorem greatest_mem {l : List Nat} (h : l ≠ []) : greatest l ∈ l := by
  induction l with
  | nil => exact absurd rfl h
  | cons a l ih =>
    rw [greatest_cons]
    by_cases hl : l = []
    · subst hl
      simp [greatest]
    · rcases max_choice a (greatest l) with hmax | hmax <;> rw [hmax]
      · exact List.mem_cons_self
      · exact List.mem_cons_of_mem _ (ih hl)

/-! ## The figures over the counted defects (R43, R46) -/

section Figures

variable {lanes : List LaneId} {ds : List Defect}

theorem mem_countedDefects (lanes : List LaneId) (ds : List Defect) (d : Defect) :
    d ∈ countedDefects lanes ds ↔ d ∈ ds ∧ d.lane ∈ lanes := by
  simp [countedDefects]

theorem count_countedDefects {d : Defect} (h : d.lane ∈ lanes) : (countedDefects lanes ds).count d = ds.count d :=
  List.count_filter (by simpa using h)

theorem le_largestKnot {d : Defect} (h : d ∈ ds) (hk : d.kind = .soundKnot ∨ d.kind = .openKnot) :
    d.size ≤ largestKnot ds :=
  le_greatest (List.mem_map.2 ⟨d, List.mem_filter.2 ⟨h, by simpa using hk⟩, rfl⟩)

theorem largestKnot_mem (ds : List Defect) :
    largestKnot ds = 0 ∨ ∃ d ∈ ds, (d.kind = .soundKnot ∨ d.kind = .openKnot) ∧ d.size = largestKnot ds := by
  unfold largestKnot
  by_cases hnone : (ds.filter fun d => d.kind == .soundKnot || d.kind == .openKnot).map (·.size) = []
  · exact .inl (by rw [hnone]; rfl)
  · obtain ⟨d, hd, hsize⟩ := List.mem_map.1 (greatest_mem hnone)
    obtain ⟨hmem, hkind⟩ := List.mem_filter.1 hd
    exact .inr ⟨d, hmem, by simpa using hkind, hsize⟩

theorem openCount_eq (ds : List Defect) :
    openCount ds = ds.countP (fun d => d.kind == .openKnot) + ds.countP (fun d => d.kind == .hole) := by
  unfold openCount
  induction ds with
  | nil => rfl
  | cons d ds ih =>
    simp only [List.countP_cons, ih]
    cases d.kind <;> simp <;> omega

theorem splitTotal_eq (ds : List Defect) : splitTotal ds = (ds.map fun d => if d.kind = .split then d.size else 0).sum := by
  unfold splitTotal
  induction ds with
  | nil => rfl
  | cons d ds ih =>
    by_cases h : d.kind = .split <;> simp [h, ih]

theorem isStained_iff (ds : List Defect) : isStained ds = true ↔ ∃ d ∈ ds, d.kind = .stain := by
  simp [isStained]

end Figures

/-! ## The report graded (R39, R47 to R52) -/

section Report

variable {k : Bank} {no : BankNo} {serial : Serial} {r : Report} {usable : BitVec 8}

/-- The figures that the class decision takes (R45, R46). -/
def reportFigures (k : Bank) (r : Report) (lanes : List LaneId) : Figures :=
  { density := defectDensity (rawScore k (countedDefects lanes r.defects))
      (coveredArea r.length r.width lanes.length (laneCountOf r.mask))
    knot := largestKnot (countedDefects lanes r.defects), openings := openCount (countedDefects lanes r.defects)
    split := splitTotal (countedDefects lanes r.defects), stained := isStained (countedDefects lanes r.defects) }

theorem gradeReport_of_nil (h : usableList r.mask usable = []) : gradeReport k no serial r usable = noScanResult no serial :=
  if_pos (congrArg List.length h)

/-- The result of a report with usable lanes, once it is known whether it is wet and whether its grades are capped. -/
def gradedAs (k : Bank) (no : BankNo) (serial : Serial) (r : Report) (lanes : List LaneId) (wet capped : Bool) :
    GradeResult :=
  { cls := some (if wet then .W else if widthClass k r.width = .strip then .N
      else appearanceDecision k capped (reportFigures k r lanes))
    density := (reportFigures k r lanes).density
    moistMax := greatest (lanes.map fun i => r.moisture[i])
    moistMean := roundedMean (lanes.map fun i => r.moisture[i]).sum lanes.length
    width := some (widthClass k r.width), degraded := decide (lanes.length < laneCountOf r.mask), capped := capped
    reason := if wet then .wet else if widthClass k r.width = .strip then .strip
      else firstFailing k.grade[startingGrade capped] (reportFigures k r lanes)
    bank := no, serial := serial }

theorem gradeReport_eq {lanes : List LaneId} (hl : usableList r.mask usable = lanes) (h : lanes ≠ []) {wet : Bool}
    (hwet : isWet k (greatest (lanes.map fun i => r.moisture[i]))
      (roundedMean (lanes.map fun i => r.moisture[i]).sum lanes.length) = wet) {capped : Bool}
    (hcap : (!wet && widthClass k r.width != .strip &&
      (decide (lanes.length < laneCountOf r.mask) || widthClass k r.width == .half)) = capped) :
    gradeReport k no serial r usable = gradedAs k no serial r lanes wet capped := by
  have hlen : ¬ lanes.length = 0 := fun h0 => h (List.length_eq_zero_iff.1 h0)
  subst hl hwet hcap
  exact if_neg hlen

/-- The figures and marks of a result that do not depend on the class. -/
theorem gradeReport_fields {lanes : List LaneId} (hl : usableList r.mask usable = lanes) (h : lanes ≠ []) :
    (gradeReport k no serial r usable).moistMax = greatest (lanes.map fun i => r.moisture[i]) ∧
      (gradeReport k no serial r usable).moistMean = roundedMean (lanes.map fun i => r.moisture[i]).sum lanes.length ∧
      (gradeReport k no serial r usable).density = (reportFigures k r lanes).density ∧
      (gradeReport k no serial r usable).width = some (widthClass k r.width) ∧
      (gradeReport k no serial r usable).degraded = decide (lanes.length < laneCountOf r.mask) ∧
      (gradeReport k no serial r usable).bank = no ∧ (gradeReport k no serial r usable).serial = serial := by
  rw [gradeReport_eq hl h rfl rfl]
  exact ⟨rfl, rfl, rfl, rfl, rfl, rfl, rfl⟩

/-- The class, the reason and the cap of a report that is wet. -/
theorem gradeReport_of_wet {lanes : List LaneId} (hl : usableList r.mask usable = lanes) (h : lanes ≠ [])
    (hwet : isWet k (gradeReport k no serial r usable).moistMax (gradeReport k no serial r usable).moistMean = true) :
    (gradeReport k no serial r usable).cls = some .W ∧ (gradeReport k no serial r usable).reason = .wet ∧
      (gradeReport k no serial r usable).capped = false := by
  obtain ⟨hmax, hmean, -⟩ := gradeReport_fields (k := k) (no := no) (serial := serial) hl h
  rw [hmax, hmean] at hwet
  rw [gradeReport_eq hl h hwet rfl]
  exact ⟨rfl, rfl, rfl⟩

/-- The class, the reason and the cap of a report that is dry. -/
theorem gradeReport_of_dry {lanes : List LaneId} (hl : usableList r.mask usable = lanes) (h : lanes ≠ [])
    (hdry : isWet k (gradeReport k no serial r usable).moistMax (gradeReport k no serial r usable).moistMean = false)
    {capped : Bool} (hcap : capped = (widthClass k r.width != .strip &&
      (decide (lanes.length < laneCountOf r.mask) || widthClass k r.width == .half))) :
    (gradeReport k no serial r usable).cls =
        some (if widthClass k r.width = .strip then .N else appearanceDecision k capped (reportFigures k r lanes)) ∧
      (gradeReport k no serial r usable).reason =
        (if widthClass k r.width = .strip then .strip
          else firstFailing k.grade[startingGrade capped] (reportFigures k r lanes)) ∧
      (gradeReport k no serial r usable).capped = capped := by
  obtain ⟨hmax, hmean, -⟩ := gradeReport_fields (k := k) (no := no) (serial := serial) hl h
  rw [hmax, hmean] at hdry
  rw [gradeReport_eq hl h hdry hcap.symm]
  exact ⟨rfl, rfl, rfl⟩

end Report

/-! ## The finest grade that passes (R49) -/

section Grades

variable {capped : Bool} {P : Fin 4 → Bool}

theorem mem_gradesFrom {i : Fin 4} : i ∈ gradesFrom capped ↔ (capped = true → 2 ≤ i) := by
  revert i
  cases capped <;> decide

theorem pairwise_gradesFrom (capped : Bool) : (gradesFrom capped).Pairwise (· < ·) := by
  cases capped <;> decide

theorem find?_gradesFrom_eq_some {i : Fin 4} (hi : capped = true → 2 ≤ i) (hP : P i = true)
    (hfirst : ∀ j : Fin 4, (capped = true → 2 ≤ j) → j < i → P j = false) :
    (gradesFrom capped).find? P = some i := by
  cases h : (gradesFrom capped).find? P with
  | none => exact absurd hP (List.find?_eq_none.1 h i (mem_gradesFrom.2 hi))
  | some j =>
    obtain ⟨hPj, front, behind, hsplit, hfront⟩ := List.find?_eq_some_iff_append.1 h
    have hj : j ∈ gradesFrom capped := hsplit ▸ List.mem_append_right _ List.mem_cons_self
    have hsorted := pairwise_gradesFrom capped
    rw [hsplit] at hsorted
    have hmem : i ∈ front ++ j :: behind := hsplit ▸ mem_gradesFrom.2 hi
    rcases List.mem_append.1 hmem with hin | hin
    · exact absurd hP (by simpa using hfront i hin)
    · rcases List.mem_cons.1 hin with rfl | hin
      · rfl
      · have hlt := List.rel_of_pairwise_cons (List.pairwise_append.1 hsorted).2.1 hin
        exact absurd hPj (by simp [hfirst j (mem_gradesFrom.1 hj) hlt])

theorem find?_gradesFrom_eq_none (h : ∀ i : Fin 4, (capped = true → 2 ≤ i) → P i = false) :
    (gradesFrom capped).find? P = none := by
  rw [List.find?_eq_none]
  intro i hi
  simp [h i (mem_gradesFrom.1 hi)]

theorem gradePasses_eq_true {g : GradeLimits} {x : Figures} (h : firstFailing g x = .none) : gradePasses g x = true := by
  simp [gradePasses, h]

theorem gradePasses_eq_false {g : GradeLimits} {x : Figures} (h : firstFailing g x ≠ .none) : gradePasses g x = false := by
  simpa [gradePasses] using h

end Grades

theorem isWet_eq_true {k : Bank} {mx mn : Nat} (h : k.wetLaneLimit < mx ∨ k.wetMeanLimit < mn) : isWet k mx mn = true := by
  simpa [isWet] using h

theorem isWet_eq_false {k : Bank} {mx mn : Nat} (h : mx ≤ k.wetLaneLimit) (h' : mn ≤ k.wetMeanLimit) :
    isWet k mx mn = false := by
  simp [isWet, h, h']

/-- Settles O27. -/
theorem classDecision : Obligations.ClassDecision := by
  refine ⟨⟨firstFailing_iff, widthClass_cases, fun lanes ds => ⟨mem_countedDefects lanes ds, List.filter_sublist,
    fun d => count_countedDefects, fun d => le_largestKnot, largestKnot_mem ds, openCount_eq ds, splitTotal_eq ds,
    isStained_iff ds⟩⟩, ?_⟩
  intro k no serial r usable lanes x figures hl hx hfig
  have hl' : usableList r.mask usable = lanes := hl.symm
  by_cases hnil : lanes = []
  · have hno : x = noScanResult no serial := hx.trans (gradeReport_of_nil (hl'.trans hnil))
    rw [hno]
    exact ⟨rfl, rfl, ⟨fun _ => .inr hnil, fun _ => rfl⟩, fun _ => ⟨rfl, rfl, rfl, rfl, rfl, rfl, rfl⟩,
      fun h => absurd hnil h⟩
  · obtain ⟨-, -, hdensity, hwidth, hdegraded, hbank, hserial⟩ :=
      gradeReport_fields (k := k) (no := no) (serial := serial) hl' hnil
    have hfigures : figures = reportFigures k r lanes := by
      rw [hfig, hx, hdensity]
      rfl
    subst hx
    refine ⟨hbank, hserial, ?_, fun h => absurd h hnil, fun _ => ⟨hwidth,
      fun hwet => gradeReport_of_wet hl' hnil (isWet_eq_true hwet), fun hmax hmean => ?_⟩⟩
    · rw [hdegraded, decide_eq_true_iff]
      exact ⟨.inl, fun h => h.resolve_right hnil⟩
    · obtain ⟨hcls, hreason, hcapped⟩ := gradeReport_of_dry hl' hnil (isWet_eq_false hmax hmean) rfl
      refine ⟨fun hstrip => ?_, fun hstrip => ?_⟩
      · rw [hcls, hreason, hcapped, if_pos hstrip, if_pos hstrip, hstrip]
        exact ⟨rfl, rfl, rfl⟩
      · rw [if_neg hstrip, ← hcapped, ← hfigures] at hcls hreason
        refine ⟨?_, hreason, fun i hi hpass hfirst => ?_, fun hfails => ?_⟩
        · rw [hcapped, hdegraded]
          simp [hstrip]
        · have hfind := find?_gradesFrom_eq_some (P := fun i => gradePasses k.grade[i] figures) hi
            (gradePasses_eq_true hpass) fun j hj hlt => gradePasses_eq_false (hfirst j hj hlt)
          rw [hcls, appearanceDecision, hfind]
        · have hfind := find?_gradesFrom_eq_none (P := fun i => gradePasses k.grade[i] figures)
            fun i hi => gradePasses_eq_false (hfails i hi)
          rw [hcls, appearanceDecision, hfind]
          rw [hfig]

/-! ## The bounds of the figures (R40, R43 to R45) -/

section Bounds

variable {lanes : List LaneId}

theorem rawScore_eq (k : Bank) (ds : List Defect) :
    rawScore k ds = (ds.map fun d => k.weight[d.kind.code] * min d.size 255).sum := rfl

theorem rawScore_le {k : Bank} {ds : List Defect} (hlen : ds.length ≤ 24) (hw : ∀ j : Fin 6, k.weight[j] ≤ 15) :
    rawScore k ds ≤ 91800 := by
  have hpoints : ∀ x ∈ ds.map (defectPoints k), x ≤ 3825 := by
    intro x hx
    obtain ⟨d, -, rfl⟩ := List.mem_map.1 hx
    exact Nat.mul_le_mul (hw d.kind.code) (Nat.min_le_right _ _)
  have hsum := List.sum_le_card_nsmul _ _ hpoints
  rw [List.length_map, smul_eq_mul] at hsum
  exact hsum.trans (Nat.mul_le_mul_right 3825 hlen)

/-- The mean of readings that lie between two bounds lies between them. -/
theorem roundedMean_bounds {l : List Nat} {lo hi : Nat} (hl : l ≠ []) (hlo : ∀ x ∈ l, lo ≤ x) (hhi : ∀ x ∈ l, x ≤ hi) :
    lo ≤ roundedMean l.sum l.length ∧ roundedMean l.sum l.length ≤ hi := by
  have hpos : 0 < l.length := List.length_pos_iff.2 hl
  have hmin : l.length * lo ≤ l.sum := by simpa using List.card_nsmul_le_sum l lo hlo
  have hmax : l.sum ≤ l.length * hi := by simpa using List.sum_le_card_nsmul l hi hhi
  unfold roundedMean
  refine ⟨(Nat.le_div_iff_mul_le (by omega)).2 (by nlinarith), Nat.le_of_lt_succ ?_⟩
  rw [Nat.div_lt_iff_lt_mul (by omega)]
  nlinarith

theorem length_usableList_le (mask usable : BitVec 8) : (usableList mask usable).length ≤ laneCountOf mask := by
  rw [usableList, ← List.countP_eq_length_filter, laneCountOf]
  exact List.countP_mono_left fun i _ h => (Bool.and_eq_true_iff.1 h).1

theorem laneCountOf_le (mask : BitVec 8) : laneCountOf mask ≤ 8 := List.countP_le_length

theorem coveredArea_bounds {length width n v : Nat} (hn : 1 ≤ n) (hnv : n ≤ v) (hv : v ≤ 8) (hlo : 300 ≤ length)
    (hhi : length ≤ 3000) (hwlo : 100 ≤ width) (hwhi : width ≤ 1400) :
    30 ≤ coveredArea length width n v ∧ coveredArea length width n v ≤ 42000 := by
  have hwide : 10 ≤ width * n / v := (Nat.le_div_iff_mul_le (by omega)).2 (by nlinarith)
  have hnarrow : width * n / v ≤ 1400 :=
    (Nat.div_le_of_le_mul (by nlinarith : width * n ≤ v * width)).trans hwhi
  have hlength : 30 ≤ length / 10 ∧ length / 10 ≤ 300 := by omega
  have hwidth : 1 ≤ width * n / v / 10 ∧ width * n / v / 10 ≤ 140 := by omega
  exact ⟨Nat.mul_le_mul hlength.1 hwidth.1, Nat.mul_le_mul hlength.2 hwidth.2⟩

end Bounds

/-- Settles O28. -/
theorem gradingFigureBounds : Obligations.GradingFigureBounds := by
  intro k no serial r usable lanes x hl hnil hx hlo hhi hwlo hwhi hdefects hweight
  have hl' : usableList r.mask usable = lanes := hl.symm
  obtain ⟨hmax, hmean, hdensity, -⟩ := gradeReport_fields (k := k) (no := no) (serial := serial) hl' hnil
  have hmap : (lanes.map fun i => r.moisture[i]) ≠ [] := by simpa using hnil
  have hcounted : (countedDefects lanes r.defects).length ≤ 24 := (List.length_filter_le _ _).trans hdefects
  obtain ⟨harea, harea'⟩ := coveredArea_bounds (List.length_pos_iff.2 hnil) (hl' ▸ length_usableList_le r.mask usable)
    (laneCountOf_le r.mask) hlo hhi hwlo hwhi
  subst hx
  refine ⟨?_, rawScore_eq k, rfl, ?_, rawScore_le hcounted hweight, harea, harea', ?_⟩
  · rw [hmean, roundedMean]
  · obtain ⟨hi, hhi, hgreatest⟩ := List.mem_map.1 (greatest_mem hmap)
    obtain ⟨lo, hlo, hleast⟩ := lanes.toFinset.exists_min_image (fun i => r.moisture[i])
      (by simpa using hnil)
    have hleast' : ∀ i ∈ lanes, r.moisture[lo] ≤ r.moisture[i] := fun i hi => hleast i (List.mem_toFinset.2 hi)
    have hall : ∀ i ∈ lanes, r.moisture[i] ≤ r.moisture[hi] := fun i hi =>
      hgreatest ▸ le_greatest (List.mem_map_of_mem hi)
    obtain ⟨hlower, hupper⟩ := roundedMean_bounds hmap (lo := r.moisture[lo]) (hi := r.moisture[hi])
      (by simpa using hleast') (by simpa using hall)
    rw [List.length_map, ← hmean] at hlower hupper
    refine ⟨lo, List.mem_toFinset.1 hlo, hi, hhi, hlower, hupper, hmax.trans hgreatest.symm, fun i hi => ⟨hleast' i hi, ?_⟩⟩
    rw [hmax, ← hgreatest]
    exact hall i hi
  · rw [hdensity]
    exact Nat.min_comm _ _

end Sys2Proof.Machine
end

section
/-! The rule banks: bank validation (R65), RULE SWAP with the exchange of an armed swap (R66 to R69), and RULE WRITE
(R60 to R63). -/

namespace Sys2Proof.Machine

set_option Elab.async false

open Sys2Proof

/-! ## The first failing check -/

/-- The first field that fails of one group: none when no field does. -/
structure FirstField (fails : Nat → Prop) (o : Option Nat) : Prop where
  none_iff : o = none ↔ ∀ i, ¬ fails i
  some_iff : ∀ i, o = some i ↔ fails i ∧ ∀ j < i, ¬ fails j

theorem FirstField.congr {fails fails' : Nat → Prop} {o : Option Nat} (h : FirstField fails o)
    (heq : ∀ i, fails' i ↔ fails i) : FirstField fails' o := by
  have : fails' = fails := funext fun i => propext (heq i)
  rwa [this]

theorem firstField_none : FirstField (fun _ => False) none := by
  constructor <;> simp

/-- A check of field `n` ahead of those of later fields. -/
theorem FirstField.ite {fails : Nat → Prop} {o : Option Nat} (h : FirstField fails o) (n : Nat) (c : Prop) [Decidable c]
    (hlater : ∀ i, fails i → n < i) : FirstField (fun i => i = n ∧ c ∨ fails i) (if c then some n else o) := by
  by_cases hc : c
  · rw [if_pos hc]
    refine ⟨⟨nofun, fun h => absurd (.inl ⟨rfl, hc⟩) (h n)⟩, fun i => ?_⟩
    rw [Option.some.injEq]
    constructor
    · rintro rfl
      refine ⟨.inl ⟨rfl, hc⟩, fun j hj hfails => ?_⟩
      rcases hfails with ⟨rfl, -⟩ | hfails
      · exact lt_irrefl _ hj
      · exact lt_asymm hj (hlater j hfails)
    · rintro ⟨⟨rfl, -⟩ | hfails, hfirst⟩
      · rfl
      · exact absurd (.inl ⟨rfl, hc⟩) (hfirst n (hlater i hfails))
  · rw [if_neg hc]
    exact h.congr fun i => by simp [hc]

/-- What a validation names, a group and a field, is the first of the checks that fail, group by group and field by field;
it names none when no check fails. -/
structure FirstFault (fails : Nat → Nat → Prop) (o : Option (Nat × Nat)) : Prop where
  none_iff : o = none ↔ ∀ g i, ¬ fails g i
  some_iff : ∀ g i, o = some (g, i) ↔ fails g i ∧ ∀ g' i', g' < g ∨ g' = g ∧ i' < i → ¬ fails g' i'

theorem FirstFault.congr {fails fails' : Nat → Nat → Prop} {o : Option (Nat × Nat)} (h : FirstFault fails o)
    (heq : ∀ g i, fails' g i ↔ fails g i) : FirstFault fails' o := by
  have : fails' = fails := funext fun g => funext fun i => propext (heq g i)
  rwa [this]

theorem firstFault_none : FirstFault (fun _ _ => False) none := by
  constructor <;> simp

/-- The checks of one group come before those of the later groups. -/
theorem FirstFault.or {Q : Nat → Nat → Prop} {rest : Option (Nat × Nat)} (hrest : FirstFault Q rest) (g : Nat)
    {P : Nat → Prop} {o : Option Nat} (h : FirstField P o) (hlater : ∀ g' i, Q g' i → g < g') :
    FirstFault (fun g' i => g' = g ∧ P i ∨ Q g' i) ((o.map (Prod.mk g)).or rest) := by
  cases ho : o with
  | none =>
    have hP := h.none_iff.1 ho
    refine FirstFault.congr (fails := Q) hrest fun g' i => ?_
    simp [hP]
  | some a =>
    obtain ⟨ha, hfirst⟩ := (h.some_iff a).1 ho
    refine ⟨?_, fun g' i => ?_⟩
    · simp only [Option.map_some, Option.some_or, reduceCtorEq, false_iff, not_forall, not_not]
      exact ⟨g, a, .inl ⟨rfl, ha⟩⟩
    · simp only [Option.map_some, Option.some_or, Option.some.injEq, Prod.mk.injEq]
      constructor
      · rintro ⟨rfl, rfl⟩
        refine ⟨.inl ⟨rfl, ha⟩, fun g' i' hbefore hfails => ?_⟩
        rcases hfails with ⟨rfl, hi⟩ | hQ
        · exact hfirst i' (hbefore.resolve_left (lt_irrefl _)).2 hi
        · have := hlater g' i' hQ
          omega
      · rintro ⟨hfails, hmin⟩
        have hg : g' = g := by
          rcases hfails with ⟨rfl, -⟩ | hQ
          · rfl
          · exact absurd (.inl ⟨rfl, ha⟩) (hmin g a (.inl (hlater g' i hQ)))
        subst hg
        have hi : P i := by
          rcases hfails with ⟨-, hi⟩ | hQ
          · exact hi
          · exact absurd (hlater g' i hQ) (lt_irrefl _)
        refine ⟨rfl, ?_⟩
        rcases Nat.lt_trichotomy a i with hlt | rfl | hlt
        · exact absurd (.inl ⟨rfl, ha⟩) (hmin g' a (.inr ⟨rfl, hlt⟩))
        · rfl
        · exact absurd hi (hfirst i hlt)

/-! ## Bank validation (R65) -/

/-- Field `i` of a grade is stricter than the grade before it. -/
def GradeLimits.Stricter (before here : GradeLimits) (i : Nat) : Prop :=
  i = 0 ∧ here.knotMax < before.knotMax ∨ i = 1 ∧ here.openMax < before.openMax ∨
    i = 2 ∧ here.splitMax < before.splitMax ∨ i = 3 ∧ here.stainOk = false ∧ before.stainOk = true ∨
    i = 4 ∧ here.densityMax < before.densityMax

/-- Every limit of a grade rises or stays, and stain_ok stays yes once yes. -/
def GradeLimits.Follows (before here : GradeLimits) : Prop :=
  before.knotMax ≤ here.knotMax ∧ before.openMax ≤ here.openMax ∧ before.splitMax ≤ here.splitMax ∧
    (before.stainOk = true → here.stainOk = true) ∧ before.densityMax ≤ here.densityMax

theorem firstField_limitsFault (before here : GradeLimits) :
    FirstField (before.Stricter here) (limitsFault before here) := by
  have h4 := firstField_none.ite 4 (here.densityMax < before.densityMax) fun _ => False.elim
  have h3 := h4.ite 3 (before.stainOk && !here.stainOk) (by grind)
  have h2 := h3.ite 2 (here.splitMax < before.splitMax) (by grind)
  have h1 := h2.ite 1 (here.openMax < before.openMax) (by grind)
  have h0 := h1.ite 0 (here.knotMax < before.knotMax) (by grind)
  refine h0.congr fun i => ?_
  simp only [GradeLimits.Stricter, Bool.and_eq_true, Bool.not_eq_true', or_false, and_comm]

theorem GradeLimits.not_stricter_iff (before here : GradeLimits) :
    (∀ i, ¬ before.Stricter here i) ↔ before.Follows here := by
  rw [← (firstField_limitsFault before here).none_iff]
  unfold limitsFault GradeLimits.Follows
  grind

/-- Field `i` of group 5 fails against grade D. -/
def Bank.CoreFails (k : Bank) (i : Nat) : Prop :=
  i = 0 ∧ k.coreDensityMax < k.grade[(3 : Fin 4)].densityMax ∨ i = 1 ∧ k.coreOpenMax < k.grade[(3 : Fin 4)].openMax ∨
    i = 5 ∧ k.wFull ≤ k.wHalf

/-- The first field of group 5 that fails. -/
def Bank.coreFault (k : Bank) : Option Nat :=
  if k.coreDensityMax < k.grade[3].densityMax then some 0
  else if k.coreOpenMax < k.grade[3].openMax then some 1
  else if k.wFull ≤ k.wHalf then some 5
  else none

theorem Bank.firstField_coreFault (k : Bank) : FirstField k.CoreFails k.coreFault := by
  have h5 := firstField_none.ite 5 (k.wFull ≤ k.wHalf) fun _ => False.elim
  have h1 := h5.ite 1 (k.coreOpenMax < k.grade[3].openMax) (by grind)
  have h0 := h1.ite 0 (k.coreDensityMax < k.grade[3].densityMax) (by grind)
  refine h0.congr fun i => ?_
  simp only [Bank.CoreFails, or_false]
  rfl

theorem Bank.not_coreFails_iff (k : Bank) :
    (∀ i, ¬ k.CoreFails i) ↔ k.grade[(3 : Fin 4)].densityMax ≤ k.coreDensityMax ∧
      k.grade[(3 : Fin 4)].openMax ≤ k.coreOpenMax ∧ k.wHalf < k.wFull := by
  rw [← k.firstField_coreFault.none_iff]
  unfold Bank.coreFault
  simp only [Fin.getElem_fin]
  grind

/-- The validation goes through the groups 2 to 5 in their order. -/
theorem Bank.fault_eq (k : Bank) :
    k.fault = ((limitsFault k.grade[0] k.grade[1]).map (Prod.mk 2)).or
      (((limitsFault k.grade[1] k.grade[2]).map (Prod.mk 3)).or
        (((limitsFault k.grade[2] k.grade[3]).map (Prod.mk 4)).or
          ((k.coreFault.map (Prod.mk 5)).or none))) := by
  unfold Bank.fault
  cases limitsFault k.grade[0] k.grade[1] <;> cases limitsFault k.grade[1] k.grade[2] <;>
    cases limitsFault k.grade[2] k.grade[3] <;> try rfl
  unfold Bank.coreFault
  grind

/-- Check `i` of group `g` fails. -/
def Bank.Fails (k : Bank) (g i : Nat) : Prop :=
  (∃ j : Fin 3, g = j.val + 2 ∧ (k.grade[j.castSucc]).Stricter k.grade[j.succ] i) ∨ g = 5 ∧ k.CoreFails i

theorem Bank.firstFault (k : Bank) : FirstFault k.Fails k.fault := by
  rw [k.fault_eq]
  have hcore := firstFault_none.or 5 k.firstField_coreFault fun _ _ => False.elim
  have hD := hcore.or 4 (firstField_limitsFault k.grade[2] k.grade[3]) (by grind)
  have hC := hD.or 3 (firstField_limitsFault k.grade[1] k.grade[2]) (by grind)
  have hB := hC.or 2 (firstField_limitsFault k.grade[0] k.grade[1]) (by grind)
  refine hB.congr fun g i => ?_
  simp only [Bank.Fails, Fin.exists_fin_succ, or_false, or_assoc]
  simp [Fin.succ, Fin.castSucc]

/-- Limits that follow each grade the one before follow over any distance. -/
theorem GradeLimits.Follows.trans {x y z : GradeLimits} (h : x.Follows y) (h' : y.Follows z) : x.Follows z := by
  obtain ⟨h1, h2, h3, h4, h5⟩ := h
  obtain ⟨h1', h2', h3', h4', h5'⟩ := h'
  exact ⟨h1.trans h1', h2.trans h2', h3.trans h3', fun hs => h4' (h4 hs), h5.trans h5'⟩

theorem GradeLimits.Follows.refl (x : GradeLimits) : x.Follows x := ⟨le_refl _, le_refl _, le_refl _, id, le_refl _⟩

theorem Bank.grades_follow_iff (k : Bank) :
    (∀ i j : Fin 4, i ≤ j → (k.grade[i]).Follows k.grade[j]) ↔
      ∀ j : Fin 3, (k.grade[j.castSucc]).Follows k.grade[j.succ] := by
  refine ⟨fun h j => h _ _ (Fin.castSucc_lt_succ).le, fun h i j hij => ?_⟩
  induction j using Fin.induction with
  | zero =>
    obtain rfl : i = 0 := Fin.le_zero_iff.1 hij
    exact .refl _
  | succ j ih =>
    rcases hij.lt_or_eq with hlt | rfl
    · exact (ih (Fin.le_castSucc_iff.2 hlt)).trans (h j)
    · exact .refl _

theorem Bank.fault_eq_none (k : Bank) :
    k.fault = none ↔
      (∀ i j : Fin 4, i ≤ j → (k.grade[i]).Follows k.grade[j]) ∧
        k.grade[(3 : Fin 4)].densityMax ≤ k.coreDensityMax ∧ k.grade[(3 : Fin 4)].openMax ≤ k.coreOpenMax ∧
        k.wHalf < k.wFull := by
  have hfails : (∀ g i, ¬ k.Fails g i) ↔
      (∀ j : Fin 3, ∀ i, ¬ (k.grade[j.castSucc]).Stricter k.grade[j.succ] i) ∧ ∀ i, ¬ k.CoreFails i := by
    unfold Bank.Fails
    constructor
    · exact fun h => ⟨fun j i hs => h _ i (.inl ⟨j, rfl, hs⟩), fun i hc => h 5 i (.inr ⟨rfl, hc⟩)⟩
    · rintro ⟨hlimits, hcore⟩ g i (⟨j, -, hs⟩ | ⟨-, hc⟩)
      · exact hlimits j i hs
      · exact hcore i hc
  rw [k.firstFault.none_iff, hfails, k.not_coreFails_iff, k.grades_follow_iff]
  simp only [GradeLimits.not_stricter_iff]

/-- Settles O31. -/
theorem bankValidation : Obligations.BankValidation := fun k =>
  ⟨k.fault_eq_none, k.Fails, fun _ _ => Iff.rfl, k.firstFault.some_iff⟩

/-! ## RULE SWAP and the exchange (R66 to R69) -/

section Swap

variable {p : Port} {f : Frame} {s : State}

theorem exec_ruleSwap_busy (h : s.asks p 0x12 f) (hf : f.payload = []) (harmed : s.rules.armed = true) :
    exec (.ruleSwap p f) s = .next (s.answer p ⟨.busy, []⟩) := by
  refine exec_answer rfl h ?_
  change ruleSwapBody p f.payload s = refuse .busy s
  rw [hf, ruleSwapBody, withoutPayload_nil, if_pos harmed]

theorem exec_ruleSwap_invalid (h : s.asks p 0x12 f) (hf : f.payload = []) (harmed : s.rules.armed = false) {g i : Nat}
    (hfault : (s.rules.bank s.rules.active.other).fault = some (g, i)) :
    exec (.ruleSwap p f) s = .next (s.answer p ⟨.invalid, [u8 g, u8 i]⟩) := by
  refine exec_answer rfl h ?_
  change ruleSwapBody p f.payload s = _
  rw [hf, ruleSwapBody, withoutPayload_nil, harmed, if_neg Bool.false_ne_true, RuleBanks.standby, hfault]

theorem exec_ruleSwap_valid (h : s.asks p 0x12 f) (hf : f.payload = []) (harmed : s.rules.armed = false)
    (hfault : (s.rules.bank s.rules.active.other).fault = none) {t : State}
    (ht : (if s.engine = none then s.exchange else { s with rules := { s.rules with armed := true } }) = t) :
    exec (.ruleSwap p f) s =
      .next (t.answer p ⟨.ok, u8 (bit t.rules.armed) :: be16 t.rules.serial.toNat⟩) := by
  refine exec_answer rfl h ?_
  change ruleSwapBody p f.payload s = _
  rw [hf, ruleSwapBody, withoutPayload_nil, harmed, if_neg Bool.false_ne_true, RuleBanks.standby, hfault, ← ht]

theorem State.exchange_of_not_armed (h : s.rules.armed = false) :
    s.exchange = ({ s with rules := { s.rules with
      active := s.rules.active.other, serial := s.rules.serial + 1 } } : State).raiseAll .swapDone := by
  rw [State.exchange, ← h]

theorem exec_armedSwapExchange (harmed : s.rules.armed = true) :
    exec .armedSwapExchange s = .next s.completionEvent.exchangeIfDue := by
  change Host.Outcome.next (if s.rules.armed then s.completionEvent.exchangeIfDue else s) = _
  rw [if_pos harmed]

/-- A completion leaves no swap armed. -/
theorem State.armed_completionEvent {g : Grading} (hg : s.engine = some g) : s.completionEvent.rules.armed = false := by
  unfold State.completionEvent
  rw [hg]
  dsimp only
  split <;> exact State.releaseEngine_armed _

end Swap

/-- Settles O30. -/
theorem ruleSwapAndExchange : Obligations.RuleSwapAndExchange := by
  refine ⟨fun p f s h => ⟨fun hf => exec_answer rfl h (show ruleSwapBody p f.payload s = refuse .badArg s from
    withoutPayload_cons hf _ _), fun hf => ⟨exec_ruleSwap_busy h hf, fun harmed =>
      ⟨fun g i hfault => exec_ruleSwap_invalid h hf harmed hfault, fun hfault => ⟨fun hidle => ?_, fun hgrading => ?_⟩⟩⟩⟩,
    fun s harmed => ⟨fun g hg => ?_, fun hidle => ?_⟩⟩
  · exact exec_ruleSwap_valid h hf harmed hfault ((if_pos hidle).trans (State.exchange_of_not_armed harmed)) |>.trans
      (by rw [State.raiseAll_rules, harmed]; rfl)
  · exact exec_ruleSwap_valid h hf harmed hfault (if_neg hgrading)
  · rw [exec_armedSwapExchange harmed, State.exchangeIfDue_of_not_armed (State.armed_completionEvent hg)]
    rfl
  · have hevent : s.completionEvent = s := by rw [State.completionEvent, hidle]
    rw [exec_armedSwapExchange harmed, hevent, State.exchangeIfDue_of_due harmed hidle]
    rfl

end Sys2Proof.Machine
end

section
/-! RULE WRITE (R60 to R63). -/

namespace Sys2Proof.Machine

set_option Elab.async false

open Sys2Proof

section Write

variable {p : Port} {f : Frame} {s : State} {l : List Byte}

theorem exec_ruleWrite_unfit (h : s.asks p 0x10 f) (hfit : ruleWriteFits f.payload = false) :
    exec (.ruleWrite p f) s = .next (s.answer p ⟨.badArg, []⟩) := by
  refine exec_answer rfl h ?_
  change ruleWriteBody p f.payload s = refuse .badArg s
  rw [ruleWriteBody, hfit]
  rfl

theorem exec_ruleWrite_stain (h : s.asks p 0x10 f) (hfit : ruleWriteFits f.payload = true)
    (hstain : stainByteFits f.payload = false) : exec (.ruleWrite p f) s = .next (s.answer p ⟨.badArg, []⟩) := by
  refine exec_answer rfl h ?_
  change ruleWriteBody p f.payload s = refuse .badArg s
  rw [ruleWriteBody, hfit, hstain]
  rfl

theorem exec_ruleWrite_busy (h : s.asks p 0x10 f) (hfit : ruleWriteFits f.payload = true)
    (hstain : stainByteFits f.payload = true) (harmed : s.rules.armed = true) :
    exec (.ruleWrite p f) s = .next (s.answer p ⟨.busy, []⟩) := by
  refine exec_answer rfl h ?_
  change ruleWriteBody p f.payload s = refuse .busy s
  rw [ruleWriteBody, hfit, hstain, harmed]
  rfl

/-- A group accepted: the standby bank takes the fields sent, clamped. -/
theorem exec_ruleWrite (h : s.asks p 0x10 f) (hfit : ruleWriteFits f.payload = true)
    (hstain : stainByteFits f.payload = true) (harmed : s.rules.armed = false) {g : Nat} {sent kept : Bank} {c : Prop}
    [Decidable c] (hg : byteAt f.payload 0 = g) (hsent : (s.rules.bank s.rules.active.other).withGroup g f.payload = sent)
    (hkept : sent.clampGroup g = kept) (hsame : kept = sent ↔ c) :
    exec (.ruleWrite p f) s =
      .next (({ s with rules := s.rules.setBank s.rules.active.other kept } : State).answer p
        ⟨if c then .ok else .clamped, [u8 s.rules.active.other.code, u8 g] ++ kept.groupBytes g⟩) := by
  subst hg hsent hkept
  refine exec_answer rfl h ?_
  change ruleWriteBody p f.payload s = _
  rw [ruleWriteBody, hfit, hstain, harmed, ← if_congr hsame rfl rfl]
  rfl

theorem ruleWriteFits_of {g : Byte} {rest : List Byte} (hl : l = g :: rest)
    (h : ruleGroupLength g.toNat = some rest.length) : ruleWriteFits l = true := by
  subst hl
  simp [ruleWriteFits, h, Nat.add_comm]

theorem ruleWriteFits_of_ne {g : Byte} {rest : List Byte} (hl : l = g :: rest)
    (h : ruleGroupLength g.toNat ≠ some rest.length) : ruleWriteFits l = false := by
  subst hl
  unfold ruleWriteFits
  rw [byteAt_cons_zero]
  cases hlen : ruleGroupLength g.toNat with
  | none => rfl
  | some n =>
    have hne : n ≠ rest.length := fun hn => h (hn ▸ hlen)
    rw [beq_eq_false_iff_ne, List.length_cons]
    omega

theorem clamp_zero (hi v : Nat) : clamp 0 hi v = min hi v := Nat.zero_max _

theorem clamp_eq_self_iff {lo hi v : Nat} (h : lo ≤ hi) : clamp lo hi v = v ↔ lo ≤ v ∧ v ≤ hi := by
  unfold clamp
  omega

end Write

/-! ## The groups -/

section Groups

variable {b : Bank}

theorem ruleGroupLength_grade (k : Fin 4) : ruleGroupLength (k.val + 1) = some 8 := by
  revert k
  decide

theorem Bank.withGroup_grade (k : Fin 4) (l : List Byte) :
    b.withGroup (k.val + 1) l = { b with grade := b.grade.set k (sentLimits l) } := by
  rw [Bank.withGroup, gradeOfGroup_succ]

theorem Bank.clampGroup_grade (k : Fin 4) (x : GradeLimits) :
    ({ b with grade := b.grade.set k x } : Bank).clampGroup (k.val + 1) = { b with grade := b.grade.set k x.clamped } := by
  rw [Bank.clampGroup, gradeOfGroup_succ]
  simp

theorem Bank.grade_set_inj {k : Fin 4} {x y : GradeLimits} :
    ({ b with grade := b.grade.set k x } : Bank) = { b with grade := b.grade.set k y } ↔ x = y := by
  refine ⟨fun h => ?_, fun h => by rw [h]⟩
  have hget := congrArg (fun z : Bank => z.grade[k]) h
  simpa using hget

/-- Every field of group 0 is sent and clamped on its own. -/
theorem Bank.clampGroup_withGroup_weight (w0 w1 w2 w3 w4 w5 : Byte) :
    (b.withGroup 0 [0, w0, w1, w2, w3, w4, w5]).clampGroup 0 =
      { b with weight := #v[min 15 w0.toNat, min 15 w1.toNat, min 15 w2.toNat, min 15 w3.toNat, min 15 w4.toNat,
                min 15 w5.toNat] } := by
  simp only [← clamp_zero 15]
  rfl

theorem Bank.clampGroup_withGroup_weight_eq_iff (w0 w1 w2 w3 w4 w5 : Byte) :
    ({ b with weight := #v[min 15 w0.toNat, min 15 w1.toNat, min 15 w2.toNat, min 15 w3.toNat, min 15 w4.toNat,
                min 15 w5.toNat] } : Bank) = b.withGroup 0 [0, w0, w1, w2, w3, w4, w5] ↔
      ∀ w ∈ [w0, w1, w2, w3, w4, w5], w.toNat ≤ 15 := by
  have hsent : b.withGroup 0 [0, w0, w1, w2, w3, w4, w5] =
      { b with weight := #v[w0.toNat, w1.toNat, w2.toNat, w3.toNat, w4.toNat, w5.toNat] } := rfl
  rw [hsent, Bank.mk.injEq]
  simp

theorem beq_one_toNat (v : Byte) : (v.toNat == 1) = (v == 1) := by
  rw [Bool.eq_iff_iff, beq_iff_eq, beq_iff_eq]
  exact ⟨fun h => BitVec.eq_of_toNat_eq h, fun h => h ▸ rfl⟩

/-- A grade group as sent, in its layout (R60). -/
theorem sentLimits_bytes (k : Byte) (knot split density : BitVec 16) (openings stain : Byte) :
    sentLimits (k :: (be16 knot.toNat ++ [openings] ++ be16 split.toNat ++ [stain] ++ be16 density.toNat)) =
      ⟨knot.toNat, openings.toNat, split.toNat, stain == 1, density.toNat⟩ := by
  simp only [sentLimits, nat16At, be16, List.cons_append, List.nil_append, byteAt_cons_succ, byteAt_cons_zero,
    beq_one_toNat, toNat_u8, join_bytes16, Nat.mod_eq_of_lt (BitVec.isLt _)]

theorem GradeLimits.clamped_eq (knot split density : BitVec 16) (openings stain : Byte) :
    (⟨knot.toNat, openings.toNat, split.toNat, stain == 1, density.toNat⟩ : GradeLimits).clamped =
      ⟨max 1 (min 1023 knot.toNat), min 24 openings.toNat, min 9999 split.toNat, stain == 1, density.toNat⟩ := by
  have hdensity := density.isLt
  simp only [GradeLimits.clamped, GradeLimits.mk.injEq, clamp, true_and]
  omega

theorem GradeLimits.clamped_eq_iff (knot split density : BitVec 16) (openings stain : Byte) :
    (⟨max 1 (min 1023 knot.toNat), min 24 openings.toNat, min 9999 split.toNat, stain == 1, density.toNat⟩ :
        GradeLimits) = ⟨knot.toNat, openings.toNat, split.toNat, stain == 1, density.toNat⟩ ↔
      1 ≤ knot.toNat ∧ knot.toNat ≤ 1023 ∧ openings.toNat ≤ 24 ∧ split.toNat ≤ 9999 := by
  simp only [GradeLimits.mk.injEq, and_true]
  omega

/-- Group 5 as sent, in its layout (R60). -/
theorem Bank.withGroup_core (core wetLane wetMean full half : BitVec 16) (coreOpen : Byte) :
    b.withGroup 5 (5 :: (be16 core.toNat ++ [coreOpen] ++ be16 wetLane.toNat ++ be16 wetMean.toNat ++ be16 full.toNat ++
        be16 half.toNat)) =
      { b with
        coreDensityMax := core.toNat, coreOpenMax := coreOpen.toNat, wetLaneLimit := wetLane.toNat
        wetMeanLimit := wetMean.toNat, wFull := full.toNat, wHalf := half.toNat } := by
  simp only [Bank.withGroup, nat16At, be16, List.cons_append, List.nil_append, byteAt_cons_succ, byteAt_cons_zero,
    toNat_u8, join_bytes16, Nat.mod_eq_of_lt (BitVec.isLt _)]
  rfl

theorem Bank.clampGroup_core (core wetLane wetMean full half : BitVec 16) (coreOpen : Byte) :
    ({ b with
        coreDensityMax := core.toNat, coreOpenMax := coreOpen.toNat, wetLaneLimit := wetLane.toNat
        wetMeanLimit := wetMean.toNat, wFull := full.toNat, wHalf := half.toNat } : Bank).clampGroup 5 =
      { b with
        coreDensityMax := core.toNat, coreOpenMax := min 24 coreOpen.toNat
        wetLaneLimit := min 400 wetLane.toNat, wetMeanLimit := min 400 wetMean.toNat
        wFull := max 100 (min 1400 full.toNat), wHalf := max 100 (min 1400 half.toNat) } := by
  have hcore : clamp 0 65535 core.toNat = core.toNat :=
    (clamp_eq_self_iff (Nat.zero_le _)).mpr ⟨Nat.zero_le _, Nat.le_of_lt_succ core.isLt⟩
  change ({ b with
    coreDensityMax := clamp 0 65535 core.toNat, coreOpenMax := clamp 0 24 coreOpen.toNat
    wetLaneLimit := clamp 0 400 wetLane.toNat, wetMeanLimit := clamp 0 400 wetMean.toNat
    wFull := clamp 100 1400 full.toNat, wHalf := clamp 100 1400 half.toNat } : Bank) = _
  simp only [hcore, clamp_zero]
  rfl

theorem Bank.clampGroup_core_eq_iff (core wetLane wetMean full half : BitVec 16) (coreOpen : Byte) :
    ({ b with
        coreDensityMax := core.toNat, coreOpenMax := min 24 coreOpen.toNat
        wetLaneLimit := min 400 wetLane.toNat, wetMeanLimit := min 400 wetMean.toNat
        wFull := max 100 (min 1400 full.toNat), wHalf := max 100 (min 1400 half.toNat) } : Bank) =
      { b with
        coreDensityMax := core.toNat, coreOpenMax := coreOpen.toNat, wetLaneLimit := wetLane.toNat
        wetMeanLimit := wetMean.toNat, wFull := full.toNat, wHalf := half.toNat } ↔
      coreOpen.toNat ≤ 24 ∧ wetLane.toNat ≤ 400 ∧ wetMean.toNat ≤ 400 ∧ 100 ≤ full.toNat ∧
        full.toNat ≤ 1400 ∧ 100 ≤ half.toNat ∧ half.toNat ≤ 1400 := by
  simp only [Bank.mk.injEq, true_and]
  omega

end Groups

/-- Settles O29: each group by the fields it sends and their clamps. -/
theorem ruleWrite : Obligations.RuleWrite := by
  intro p f s h
  refine ⟨fun hbad => exec_ruleWrite_unfit h ?_, fun w0 w1 w2 w3 w4 w5 hf => ?_,
    fun k knot split density openings stain hf => ?_, fun core wetLane wetMean full half coreOpen hf => ?_⟩
  · rcases hbad with hnil | ⟨g, rest, hl, hlen⟩
    · rw [hnil]
      rfl
    · exact ruleWriteFits_of_ne hl hlen
  · have hfit : ruleWriteFits f.payload = true := ruleWriteFits_of hf rfl
    have hstain : stainByteFits f.payload = true := by rw [hf]; rfl
    refine ⟨exec_ruleWrite_busy h hfit hstain, fun harmed => ⟨_, rfl, ?_⟩⟩
    exact exec_ruleWrite h hfit hstain harmed (g := 0) (by rw [hf]; rfl) rfl
      (hf ▸ Bank.clampGroup_withGroup_weight w0 w1 w2 w3 w4 w5)
      (hf ▸ Bank.clampGroup_withGroup_weight_eq_iff w0 w1 w2 w3 w4 w5)
  · have hfirst : byteAt f.payload 0 = k.val + 1 := by
      rw [hf, byteAt_cons_zero, toNat_u8]
      omega
    have hgroup : gradeOfGroup (byteAt f.payload 0) = some k := by rw [hfirst, gradeOfGroup_succ]
    have hfit : ruleWriteFits f.payload = true := by
      refine ruleWriteFits_of hf ?_
      rw [toNat_u8, show (k.val + 1) % 256 = k.val + 1 by omega]
      exact ruleGroupLength_grade k
    have hstain : stainByteFits f.payload = decide (stain.toNat ≤ 1) := by
      rw [stainByteFits, hgroup, hf]
      rfl
    refine ⟨fun hlt => exec_ruleWrite_stain h hfit (hstain.trans (decide_eq_false (Nat.not_le.mpr hlt))),
      fun hle => exec_ruleWrite_busy h hfit (hstain.trans (decide_eq_true hle)), fun hle harmed => ⟨_, rfl, ?_⟩⟩
    refine exec_ruleWrite h hfit (hstain.trans (decide_eq_true hle)) harmed hfirst
      ((Bank.withGroup_grade k _).trans (by rw [hf, sentLimits_bytes])) ?_ ?_
    · rw [Bank.clampGroup_grade, GradeLimits.clamped_eq]
    · exact Bank.grade_set_inj.trans (GradeLimits.clamped_eq_iff knot split density openings stain)
  · have hfit : ruleWriteFits f.payload = true := ruleWriteFits_of hf rfl
    have hstain : stainByteFits f.payload = true := by rw [hf]; rfl
    refine ⟨exec_ruleWrite_busy h hfit hstain, fun harmed => ⟨_, rfl, ?_⟩⟩
    exact exec_ruleWrite h hfit hstain harmed (g := 5) (by rw [hf]; rfl)
      (hf ▸ Bank.withGroup_core core wetLane wetMean full half coreOpen)
      (Bank.clampGroup_core core wetLane wetMean full half coreOpen)
      (Bank.clampGroup_core_eq_iff core wetLane wetMean full half coreOpen)

end Sys2Proof.Machine
end

section
/-! The gates at work, and the sheet a close hands over (R82 to R84, R96). -/

namespace Sys2Proof.Machine

set_option Elab.async false

open Sys2Proof

/-! ## FLOAT release -/

section FloatRelease

variable {s : State} {b : BinId}

theorem State.setBin_setBin (s : State) (b : BinId) (r r' : BinRec) : (s.setBin b r).setBin b r' = s.setBin b r' := by
  simp [State.setBin]

theorem State.setBin_self (s : State) (b : BinId) : s.setBin b (s.bin b) = s := by
  simp [State.setBin, State.bin]

theorem BinRec.floatRelease_of_inbound {r : BinRec} {n : Nat} (h : n ≠ 0) : r.floatRelease n = r :=
  if_neg fun ⟨_, _, hn, _⟩ => h hn

theorem BinRec.floatRelease_of_questioned {r : BinRec} {n : Nat} (h : r.questioned ≠ none) : r.floatRelease n = r :=
  if_neg fun ⟨_, _, _, hq⟩ => h hq

/-- FLOAT release leaves a bin with a sheet inbound (R115). -/
theorem State.floatRelease_of_inbound (h : s.inbound b ≠ 0) : s.floatRelease b = s := by
  rw [State.floatRelease, BinRec.floatRelease_of_inbound h, s.setBin_self]

theorem State.inbound_ne_zero_of_inFlight (h : (s.bin b).inFlight ≠ []) : s.inbound b ≠ 0 := by
  have hlen := List.length_pos_iff.2 h
  unfold State.inbound
  omega

end FloatRelease

/-! ## The gates -/

section Gates

variable {s : State} {b : BinId} {e : GateEntry}

/-- GATE OPEN at the open position of an unopened lead entry (R82). -/
theorem exec_gateOpen_due (hlead : (s.gate b).lead = some e) (hopen : e.opened = false)
    (hpos : e.openPos = s.tracker.pos) :
    exec (.gateOpen b) s =
      .next (s.setGate b { s.gate b with lead := some { e with opened := true }, output := true }) := by
  have hdue : s.openDue b = true := by simp [State.openDue, hlead, hopen, hpos]
  refine congrArg Host.Outcome.next ((if_pos hdue).trans ?_)
  rw [State.openGate, hlead]
  rfl

/-- GATE CLOSE at the close position of the lead entry (R83). -/
theorem exec_gateClose_due (hlead : (s.gate b).lead = some e) (hpos : e.closePos = s.tracker.pos) :
    exec (.gateClose b) s = .next (s.closeGate b e) := by
  refine congrArg Host.Outcome.next (?_ : s.gateCloseEvent b = _)
  unfold State.gateCloseEvent
  rw [hlead]
  exact if_pos hpos

theorem State.handOver_split {front behind : List TrackRec} {r : TrackRec} {x : Sheet}
    (hq : s.tracker.queue = front ++ r :: behind) (h : OthersApart front behind r.store) (hx : r.sheet = some x) :
    s.handOver r.store = [⟨x, s.now + s.activeLayout.window⟩] := by
  rw [State.handOver, State.record?_split hq h, Option.bind_some, hx]
  rfl

/-- The close of a gate into a working bin or one in CHECK: FLOAT release finds the sheet inbound (R83). -/
theorem State.closeGate_received {q : List TrackRec} {y : InFlight} (hstate : (s.bin b).state.working ∨ (s.bin b).state = .check)
    (hq : removeRecord e.store s.tracker.queue = q) (hy : s.handOver e.store = [y]) :
    s.closeGate b e =
      ((s.setGate b ⟨(s.gate b).follow, none, false⟩).setQueue q).setBin b
        { s.bin b with inFlight := (s.bin b).inFlight ++ [y] } := by
  subst hq
  rw [State.closeGate, if_pos hstate, hy]
  refine State.floatRelease_of_inbound (State.inbound_ne_zero_of_inFlight ?_)
  rw [State.bin_setBin_self]
  exact List.append_ne_nil_of_right_ne_nil _ (List.cons_ne_nil _ _)

/-- The close of a gate into a bin in LOCKOUT: the sheet is lost (R84). -/
theorem State.closeGate_lost {q : List TrackRec} (hstate : (s.bin b).state = .lockout)
    (hq : removeRecord e.store s.tracker.queue = q) :
    ∃ u : State, u = (((s.setGate b ⟨(s.gate b).follow, none, false⟩).setQueue q).bump .lostAtGateClose).floatRelease b ∧
      s.closeGate b e = if u.inbound b = 0 then u.searchRound else u := by
  subst hq
  refine ⟨_, rfl, ?_⟩
  rw [State.closeGate, if_neg (by rw [hstate]; decide)]
  rfl

end Gates

/-- Settles O34: the opening, the close into each bin state, and the sheet handed over. -/
theorem gateWorkAndHandOver : Obligations.GateWorkAndHandOver := by
  refine ⟨fun s b e hlead => ⟨exec_gateOpen_due hlead, fun hpos front behind r x hq hstore h hx => ⟨fun hstate => ?_,
    fun hstate => ?_⟩⟩, fun r i g c w hi hg hc hw => ?_⟩
  · have hremoved := removeRecord_split (behind := behind) h
    rw [exec_gateClose_due hlead hpos, State.closeGate_received (by
      rcases hstate with hs | hs | hs <;> rw [hs] <;> decide) (by rw [← hstore, hq, hremoved])
      (hstore ▸ State.handOver_split hq h hx)]
  · obtain ⟨u, hu, heq⟩ := State.closeGate_lost (e := e) hstate (by rw [← hstore, hq, removeRecord_split h])
    refine ⟨_, u, (exec_gateClose_due hlead hpos).trans (congrArg _ heq), hu, fun hsome => if_neg hsome, fun hnone => ?_⟩
    rw [if_pos hnone]
    exact ⟨u.roundFrame_searchRound, rfl⟩
  · rw [TrackRec.sheet, hi, hg]
    simp only [hc, hw]

end Sys2Proof.Machine
end

section
/-! What a search round leaves of a bin that is not worked, and the requests of the Grade Store (R105, R109 to R118). -/

namespace Sys2Proof.Machine

set_option Elab.async false

open Sys2Proof

/-! ## Bins at rest -/

section Rest

variable {s t u : State} {b : BinId} {f : Feeder}

theorem BinState.working_iff {x : BinState} : x.working = true ↔ x = .service ∨ x = .drain := by cases x <;> decide

theorem State.working_of_eligible {sp : PlySpec} {x : Sheet} (h : s.eligible f sp b = some x) :
    (s.bin b).state.working = true := by
  unfold State.eligible at h
  dsimp only at h
  split at h
  · rename_i hc
    exact hc.1
  · cases h

theorem State.working_of_blocked {sp : PlySpec} (h : (s.blocked f sp b).isSome) : (s.bin b).state.working = true := by
  obtain ⟨x, hx⟩ := Option.isSome_iff_exists.1 h
  exact BinState.working_iff.2 (State.blocked_eq_some.1 hx).1

/-- The bin found for a ply is one of those that offer a record (R146). -/
theorem State.offers_of_bestBin {sp : PlySpec} {offers : BinId → Option Sheet} {c : Candidate}
    (h : s.bestBin sp offers = some c) : offers c.bin = some c.sheet := by
  obtain ⟨b', -, hb'⟩ := List.mem_filterMap.1 (pickBest_mem h)
  obtain ⟨x, hx, rfl⟩ := Option.map_eq_some_iff.1 hb'
  exact hx

/-- What a grant does to the bins: the mark on the record granted, and the claim of a wait that ends (R147). -/
theorem State.bin_grantPly (s : State) (f : Feeder) (e : PlyEntry) (b : BinId) (x : Sheet) (c : BinId) :
    (s.grantPly f e b x).bin c = { s.bin c with
      stack := if c = b then (s.bin c).stack.map fun y => if y.store = x.store then { y with reserved := some f } else y
        else (s.bin c).stack
      claim := if (s.feeder f).waiting ≠ none ∧ (s.bin c).claim = some f then none else (s.bin c).claim } := by
  have hmark : ((s.setBin b ((s.bin b).mark x.store (some f))).bin c) = { s.bin c with
      stack := if c = b then (s.bin c).stack.map fun y => if y.store = x.store then { y with reserved := some f } else y
        else (s.bin c).stack } := by
    rw [State.bin_setBin]
    split
    · rename_i hc
      rw [hc]
      rfl
    · rfl
  unfold State.grantPly
  dsimp only
  refine (State.bin_congr ((changes_endComplete (l := []) _ _ _) .bins (by simp)) c).trans ?_
  have hrecipe (v : State) : (if e.regular then v.advanceRecipe f else v).bins = v.bins := by
    split
    · exact changes_advanceRecipe (l := [.feeders]) v (by simp) f .bins (by simp)
    · rfl
  refine (State.bin_congr ((hrecipe _).trans (changes_send (l := []) _ _ _ .bins (by simp))) c).trans ?_
  cases hw : (s.feeder f).waiting with
  | none =>
    rw [if_neg (by simp), State.bin_congr (State.setFeeder_bins _ _ _), hmark]
    simp
  | some w =>
    rw [if_pos Option.isSome_some, State.bin_clearClaim, State.bin_congr (State.setFeeder_bins _ _ _), hmark]
    simp

/-- What a change leaves of a bin that is not worked: the stack, and the absence of a claim outside CHECK. -/
structure State.RestKept (b : BinId) (s t : State) : Prop where
  state : (t.bin b).state = (s.bin b).state
  stack : (s.bin b).state.working = false → (t.bin b).stack = (s.bin b).stack
  claim : (s.bin b).state.working = false → (s.bin b).state ≠ .check → (s.bin b).claim = none → (t.bin b).claim = none

@[refl] theorem State.RestKept.refl (b : BinId) (s : State) : s.RestKept b s := ⟨rfl, fun _ => rfl, fun _ _ h => h⟩

theorem State.RestKept.trans (h : State.RestKept b s t) (h' : State.RestKept b t u) : State.RestKept b s u where
  state := h'.state.trans h.state
  stack hs := (h'.stack (h.state ▸ hs)).trans (h.stack hs)
  claim hs hc hn := h'.claim (h.state ▸ hs) (h.state ▸ hc) (h.claim hs hc hn)

theorem restKept_of_bins (h : t.bins = s.bins) : State.RestKept b s t := by
  have hb := State.bin_congr h b
  exact ⟨by rw [hb], fun _ => by rw [hb], fun _ _ hn => by rw [hb, hn]⟩

theorem restKept_clearClaim (s : State) (f : Feeder) : State.RestKept b s (s.clearClaim f) := by
  have hb := s.bin_clearClaim f b
  refine ⟨by rw [hb], fun _ => by rw [hb], fun _ _ hn => ?_⟩
  rw [hb]
  simp [hn]

theorem restKept_claimTarget (s : State) (f : Feeder) {target : Option BinId}
    (h : ∀ c, target = some c → (s.bin c).state.working = true ∨ (s.bin c).state = .check) : State.RestKept b s (s.claimTarget f target) := by
  have hb := s.bin_claimTarget f target b
  refine ⟨by rw [hb], fun _ => by rw [hb], fun hs hc hn => ?_⟩
  have hne : target ≠ some b := fun ht => (h b ht).elim (fun hw => Bool.false_ne_true (hs.symm.trans hw)) hc
  rw [hb]
  simp [hne, hn]

theorem restKept_grantPly {e : PlyEntry} {c : BinId} {x : Sheet} (hc : (s.bin c).state.working = true) :
    State.RestKept b s (s.grantPly f e c x) := by
  have hb := s.bin_grantPly f e c x b
  refine ⟨by rw [hb], fun hs => ?_, fun _ _ hn => ?_⟩
  · have hne : b ≠ c := fun heq => by rw [heq, hc] at hs; cases hs
    rw [hb, if_neg hne]
  · rw [hb]
    simp [hn]

theorem restKept_reconsider (s : State) (f : Feeder) (e : PlyEntry) (w : Wait) :
    State.RestKept b s (s.reconsider f e w) := by
  unfold State.reconsider
  split
  · rename_i hstays
    refine restKept_claimTarget s f fun c hc => ?_
    simp only [hc, State.targetStays, Option.any_some, Bool.or_eq_true, beq_iff_eq] at hstays
    exact hstays.imp_left State.working_of_blocked
  · refine ((restKept_clearClaim s f).trans (restKept_of_bins (State.setFeeder_bins _ _ _))).trans
      (restKept_claimTarget _ f fun c hc => ?_)
    rw [State.bin_congr (s := s.clearClaim f) (by simp), State.bin_clearClaim]
    exact .inl (State.working_of_blocked (State.blocked_of_bestBin hc))

theorem restKept_startWait (s : State) (f : Feeder) (e : PlyEntry) : State.RestKept b s (s.startWait f e) := by
  refine (restKept_of_bins (State.setFeeder_bins _ _ _)).trans (restKept_claimTarget _ f fun c hc => ?_)
  rw [State.bin_congr (s := s) (by simp)]
  exact .inl (State.working_of_blocked (State.blocked_of_bestBin hc))

theorem restKept_serveFeeder (s : State) (f : Feeder) : State.RestKept b s (s.serveFeeder f).1 := by
  unfold State.serveFeeder
  split
  · exact .refl b s
  · split
    · rename_i c hbest
      exact restKept_grantPly (State.working_of_eligible (State.offers_of_bestBin hbest))
    · split
      · exact restKept_startWait s f _
      · exact restKept_reconsider s f _ _

theorem restKept_roundFrom (s : State) (k : Nat) (f : Feeder) (q : Nat) : State.RestKept b s (s.roundFrom k f q) := by
  induction k generalizing s f q with
  | zero => exact .refl b s
  | succ k ih =>
    have hturn := restKept_serveFeeder (b := b) s f
    unfold State.roundFrom
    dsimp only
    split
    · exact hturn.trans (ih _ _ _)
    · split
      · exact hturn.trans (ih _ _ _)
      · exact hturn

theorem restKept_searchRoundBy (s : State) (f : Feeder) : State.RestKept b s (s.searchRoundBy f) :=
  restKept_roundFrom s _ f 0

theorem restKept_searchRound (s : State) : State.RestKept b s s.searchRound := restKept_searchRoundBy s _

end Rest

/-! ## The conditions after a change of a bin -/

section Conditions

variable {s t u : State} {b : BinId}

/-- No condition of R11 and R104 that was absent in the first state is there in the second. -/
structure State.NoneRisen (s t : State) : Prop where
  laneDown : t.laneDown = true → s.laneDown = true
  binCheck : t.binCheck = true → s.binCheck = true
  binUncertain : t.binUncertain = true → s.binUncertain = true

theorem State.NoneRisen.takeConditions (h : s.NoneRisen t) : t.takeConditions s = t :=
  State.takeConditions_of_not_risen h.laneDown h.binCheck h.binUncertain

@[refl] theorem State.NoneRisen.refl (s : State) : s.NoneRisen s := ⟨id, id, id⟩

theorem State.NoneRisen.trans (h : s.NoneRisen t) (h' : t.NoneRisen u) : s.NoneRisen u :=
  ⟨fun hu => h.laneDown (h'.laneDown hu), fun hu => h.binCheck (h'.binCheck hu),
    fun hu => h.binUncertain (h'.binUncertain hu)⟩

theorem State.NoneRisen.round (h : s.NoneRisen t) (hround : t.RoundFrame u) : s.NoneRisen u := by
  obtain ⟨hlane, hcheck, huncertain⟩ := hround.conditions
  exact ⟨hlane ▸ h.laneDown, hcheck ▸ h.binCheck, huncertain ▸ h.binUncertain⟩

/-- A round after changes that raise no condition: the conditions taken at the end change nothing. -/
theorem State.NoneRisen.searchRound (h : s.NoneRisen t) : t.searchRound.takeConditions s = t.searchRound :=
  (h.round t.roundFrame_searchRound).takeConditions

theorem noneRisen_of_bins (hlane : t.laneDown = s.laneDown) (hcheck : ∀ c, (t.bin c).state = .check → (s.bin c).state = .check)
    (huncertain : ∀ c, (t.bin c).uncertain = true → (s.bin c).uncertain = true) : s.NoneRisen t where
  laneDown h := hlane ▸ h
  binCheck h := by
    obtain ⟨c, hc⟩ := t.binCheck_iff.1 h
    exact s.binCheck_iff.2 ⟨c, hcheck c hc⟩
  binUncertain h := by
    obtain ⟨c, hc⟩ := t.binUncertain_iff.1 h
    exact s.binUncertain_iff.2 ⟨c, huncertain c hc⟩

theorem noneRisen_setBin {r : BinRec} (hcheck : r.state = .check → (s.bin b).state = .check)
    (huncertain : r.uncertain = true → (s.bin b).uncertain = true) : s.NoneRisen (s.setBin b r) := by
  refine noneRisen_of_bins rfl (fun c => ?_) fun c => ?_
  all_goals
    rw [State.bin_setBin]
    split
    · rename_i hc
      rwa [hc]
    · exact id

theorem noneRisen_bumpBy (s : State) (c : Counter) (n : Nat) : s.NoneRisen (s.bumpBy c n) := ⟨id, id, id⟩

theorem BinRec.floatRelease_fields (r : BinRec) (n : Nat) :
    (r.floatRelease n).state = r.state ∧ (r.floatRelease n).uncertain = r.uncertain ∧
      (r.floatRelease n).stack = r.stack ∧ (r.floatRelease n).claim = r.claim := by
  unfold BinRec.floatRelease
  split <;> exact ⟨rfl, rfl, rfl, rfl⟩

theorem noneRisen_floatRelease (s : State) (b : BinId) : s.NoneRisen (s.floatRelease b) := by
  obtain ⟨hstate, huncertain, -⟩ := (s.bin b).floatRelease_fields (s.inbound b)
  exact noneRisen_setBin (fun h => hstate ▸ h) fun h => huncertain ▸ h

end Conditions

end Sys2Proof.Machine
end

section
/-! The bin requests (R109 to R114). -/

namespace Sys2Proof.Machine

set_option Elab.async false

open Sys2Proof

/-! ## The checks every bin request makes first (R109) -/

section Checks

variable {s t : State} {b : BinId} {n : Nat} {l rest : List Byte} {body : BinId → State → Reply × State}

theorem binRequest_unfit (h : l.length ≠ n ∨ byteAt l 0 = 0 ∨ 16 < byteAt l 0) :
    binRequest n body l s = refuse .badArg s := by
  unfold binRequest
  split
  · rfl
  · rename_i hlen
    rw [binOfNumber_eq_none.2 (h.resolve_left hlen)]

theorem binRequest_of (hlen : l.length = n) (hb : byteAt l 0 = binNumber b) :
    binRequest n body l s = if (s.bin b).state = .off then refuse .wrongState s else body b s := by
  rw [binRequest, if_neg (not_not.2 hlen), hb, binOfNumber_binNumber]

/-- A bin request to a bin that is not OFF is taken by its body. -/
theorem binRequest_on (hl : l = u8 (binNumber b) :: rest) (hlen : rest.length + 1 = n)
    (hon : (s.bin b).state ≠ .off) : binRequest n body l s = body b s := by
  rw [binRequest_of (by rw [hl, ← hlen]; rfl) (by rw [hl, byteAt_cons_zero, toNat_u8_binNumber]), if_neg hon]

/-- A bin request that its body refuses in this state is refused in OFF too. -/
theorem binRequest_wrongState (hl : l = u8 (binNumber b) :: rest) (hlen : rest.length + 1 = n)
    (h : (s.bin b).state ≠ .off → body b s = refuse .wrongState s) :
    binRequest n body l s = refuse .wrongState s := by
  rw [binRequest_of (by rw [hl, ← hlen]; rfl) (by rw [hl, byteAt_cons_zero, toNat_u8_binNumber])]
  split
  · rfl
  · rename_i hon
    exact h hon

theorem unfitByte_of (h : l.length ≠ 1 ∨ ∃ i : Byte, l = [i] ∧ (i = 0 ∨ 16 < i.toNat)) :
    l.length ≠ 1 ∨ byteAt l 0 = 0 ∨ 16 < byteAt l 0 := by
  rcases h with h | ⟨i, rfl, rfl | hi⟩
  · exact .inl h
  · exact .inr (.inl rfl)
  · exact .inr (.inr hi)

theorem unfitTwoBytes_of (h : l.length ≠ 2 ∨ ∃ i j : Byte, l = [i, j] ∧ (i = 0 ∨ 16 < i.toNat)) :
    l.length ≠ 2 ∨ byteAt l 0 = 0 ∨ 16 < byteAt l 0 := by
  rcases h with h | ⟨i, j, rfl, rfl | hi⟩
  · exact .inl h
  · exact .inr (.inl rfl)
  · exact .inr (.inr hi)

/-- An accepted bin request that raises no condition. -/
theorem acceptBin_of (h : s.NoneRisen t) (lead : List Byte) :
    acceptBin b lead t s = (⟨.ok, lead ++ t.summary b⟩, t) := by
  rw [acceptBin, h.takeConditions]

end Checks

/-! ## BIN UNLOAD and BIN REMOVE TOP (R113, R114) -/

section Removals

variable {p : Port} {f : Frame} {s : State} {b : BinId}

/-- The records of `top` unloaded. -/
theorem State.unloadTop_split {kept top : List Sheet} (h : (s.bin b).stack = kept ++ top) {n : Nat} (hn : top.length = n) :
    s.unloadTop b n =
      ((s.setBin b { s.bin b with stack := kept, uncertain := (s.bin b).uncertain && !kept.isEmpty }).bumpBy .unloaded
        n).floatRelease b := by
  have hkept : (s.bin b).stack.take ((s.bin b).stack.length - n) = kept := by
    rw [h, List.length_append, hn, Nat.add_sub_cancel, List.take_left]
  have hcount : (s.bin b).stack.length - kept.length = n := by
    rw [h, List.length_append, hn, Nat.add_sub_cancel_left]
  unfold State.unloadTop
  dsimp only
  rw [hkept, hcount]

theorem noneRisen_unloadTop (s : State) (b : BinId) (n : Nat) : s.NoneRisen (s.unloadTop b n) := by
  refine .trans (.trans ?_ (noneRisen_bumpBy _ _ _)) (noneRisen_floatRelease _ b)
  exact noneRisen_setBin id fun h => (Bool.and_eq_true_iff.1 h).1

theorem unloadBin_lockout (h : (s.bin b).state = .lockout) :
    unloadBin b s =
      (⟨.ok, u8 (s.bin b).stack.length :: (s.unloadTop b (s.bin b).stack.length).summary b⟩,
        s.unloadTop b (s.bin b).stack.length) := by
  rw [unloadBin, if_neg (not_not.2 h), acceptBin_of (noneRisen_unloadTop s b _)]
  rfl

theorem exec_binUnload_unfit (h : s.asks p 0x26 f) (hl : f.payload.length ≠ 1 ∨ byteAt f.payload 0 = 0 ∨
    16 < byteAt f.payload 0) : exec (.binUnload p f) s = .next (s.answer p ⟨.badArg, []⟩) := by
  refine exec_answer rfl h ?_
  change binRequest 1 unloadBin f.payload s = _
  exact binRequest_unfit hl

theorem exec_binUnload (h : s.asks p 0x26 f) (hf : f.payload = [u8 (binNumber b)]) :
    ((s.bin b).state ≠ .lockout → exec (.binUnload p f) s = .next (s.answer p ⟨.wrongState, []⟩)) ∧
      ((s.bin b).state = .lockout →
        exec (.binUnload p f) s =
          .next ((s.unloadTop b (s.bin b).stack.length).answer p
            ⟨.ok, u8 (s.bin b).stack.length :: (s.unloadTop b (s.bin b).stack.length).summary b⟩)) := by
  refine ⟨fun hs => exec_answer rfl h ?_, fun hs => exec_answer rfl h ?_⟩
  all_goals change binRequest 1 unloadBin f.payload s = _
  · exact binRequest_wrongState hf rfl fun _ => if_pos hs
  · exact (binRequest_on hf rfl (by rw [hs]; exact nofun)).trans (unloadBin_lockout hs)

theorem exec_binRemoveTop_unfit (h : s.asks p 0x27 f) (hl : f.payload.length ≠ 2 ∨ byteAt f.payload 0 = 0 ∨
    16 < byteAt f.payload 0) : exec (.binRemoveTop p f) s = .next (s.answer p ⟨.badArg, []⟩) := by
  refine exec_answer rfl h ?_
  change binRequest 2 (removeTop (byteAt f.payload 1)) f.payload s = _
  exact binRequest_unfit hl

theorem exec_binRemoveTop {n : Byte} (h : s.asks p 0x27 f) (hf : f.payload = [u8 (binNumber b), n]) :
    ((s.bin b).state ≠ .lockout → exec (.binRemoveTop p f) s = .next (s.answer p ⟨.wrongState, []⟩)) ∧
      ((s.bin b).state = .lockout →
        (n.toNat = 0 ∨ (s.bin b).stack.length < n.toNat →
          exec (.binRemoveTop p f) s = .next (s.answer p ⟨.badArg, []⟩)) ∧
        (¬(n.toNat = 0 ∨ (s.bin b).stack.length < n.toNat) →
          exec (.binRemoveTop p f) s =
            .next ((s.unloadTop b n.toNat).answer p ⟨.ok, (s.unloadTop b n.toNat).summary b⟩))) := by
  have hn : byteAt f.payload 1 = n.toNat := by rw [hf]; rfl
  refine ⟨fun hs => exec_answer rfl h ?_, fun hs =>
    have hon : (s.bin b).state ≠ .off := by rw [hs]; exact nofun
    ⟨fun hbad => exec_answer rfl h ?_, fun hfit => exec_answer rfl h ?_⟩⟩
  all_goals
    change binRequest 2 (removeTop (byteAt f.payload 1)) f.payload s = _
    rw [hn]
  · exact binRequest_wrongState hf rfl fun _ => if_pos hs
  · exact (binRequest_on hf rfl hon).trans ((if_neg (not_not.2 hs)).trans (if_pos hbad))
  · exact (binRequest_on hf rfl hon).trans ((if_neg (not_not.2 hs)).trans ((if_neg hfit).trans
      (acceptBin_of (noneRisen_unloadTop s b _) [])))

end Removals

/-- Settles O39: the refusals in their order, and the records unloaded as a split of the stack. -/
theorem binRemovals : Obligations.BinRemovals := by
  refine fun p f s => ⟨fun h hbad => exec_binUnload_unfit h (unfitByte_of hbad),
    fun h hbad => exec_binRemoveTop_unfit h (unfitTwoBytes_of hbad), fun b => ⟨fun h hf => ?_, fun n h hf => ?_⟩⟩
  · obtain ⟨hwrong, hunload⟩ := exec_binUnload h hf
    refine ⟨hwrong, fun hs => ⟨_, hunload hs, ?_⟩⟩
    rw [State.unloadTop_split (kept := []) rfl rfl]
    simp
  · obtain ⟨hwrong, hlockout⟩ := exec_binRemoveTop h hf
    refine ⟨hwrong, fun hs => ⟨(hlockout hs).1, fun kept top hsplit hlen hne => ⟨_, (hlockout hs).2 ?_, ?_⟩⟩⟩
    · have hpos := List.length_pos_iff.2 hne
      rw [hsplit, List.length_append]
      omega
    · exact State.unloadTop_split hsplit hlen

end Sys2Proof.Machine
end

section
/-! BIN DRAIN, BIN SERVICE, BIN LOCK (R110 to R112) and BIN RESOLVE (R106 to R108). -/

namespace Sys2Proof.Machine

set_option Elab.async false

open Sys2Proof

/-! ## Rounds and conditions at one bin -/

section Bins

variable {s u : State} {b : BinId}

/-- A round leaves a bin that is neither worked nor in CHECK, and has no claim, as it is. -/
theorem State.bin_searchRound_idle (hw : (u.bin b).state.working = false) (hcheck : (u.bin b).state ≠ .check)
    (hc : (u.bin b).claim = none) : u.searchRound.bin b = u.bin b := by
  have hrest := restKept_searchRound (b := b) u
  have hframe := (u.roundFrame_searchRound.bins b).1
  rw [hrest.stack hw, hrest.claim hw hcheck hc, ← hc] at hframe
  exact hframe

theorem State.bin_searchRound_lockout (hs : (u.bin b).state = .lockout) (hc : (u.bin b).claim = none) :
    u.searchRound.bin b = u.bin b :=
  State.bin_searchRound_idle (by rw [hs]; rfl) (by rw [hs]; exact nofun) hc

theorem State.bin_takeConditions (s before : State) (b : BinId) : (s.takeConditions before).bin b = s.bin b :=
  State.bin_congr (congrArg State.bins (s.takeConditions_eq before)) b

theorem State.gate_takeConditions (s before : State) (b : BinId) : (s.takeConditions before).gate b = s.gate b :=
  State.gate_congr (congrArg State.gates (s.takeConditions_eq before)) b

theorem State.bin_floatRelease_self (s : State) (b : BinId) :
    (s.floatRelease b).bin b = (s.bin b).floatRelease (s.inbound b) := State.bin_setBin_self s b _

/-- FLOAT release takes the class alone (R115). -/
theorem BinRec.floatRelease_eq (r : BinRec) (n : Nat) :
    r.floatRelease n = { r with current := (r.floatRelease n).current } := by
  unfold BinRec.floatRelease
  split <;> rfl

/-- With nothing at the gate there is nothing to cancel. -/
theorem State.cancelGate_of_entries (h : (s.gate b).entries = 0) : s.cancelGate b = s := by
  have hlead : (s.gate b).lead = none := by
    cases hl : (s.gate b).lead with
    | none => rfl
    | some e => simp [Gate.entries, hl, bit] at h
  have hfollow : (s.gate b).follow = none := by
    cases hl : (s.gate b).follow with
    | none => rfl
    | some e => simp [Gate.entries, hl, bit] at h
  have hunopened : (s.gate b).unopened = [] := by simp [Gate.unopened, hlead, hfollow]
  have hgate : ({ s.gate b with
      lead := (s.gate b).lead.filter fun e => e.opened, follow := (s.gate b).follow.filter fun e => e.opened } : Gate) =
      s.gate b := by
    rw [hlead, hfollow]
    exact congrArg₂ (fun l g => ({ s.gate b with lead := l, follow := g } : Gate)) hlead.symm hfollow.symm
  unfold State.cancelGate
  dsimp only
  rw [hgate, hunopened]
  simp [State.setQueue, State.setGate, State.gate]

end Bins

/-! ## BIN DRAIN and BIN SERVICE (R110, R111) -/

section States

variable {p : Port} {f : Frame} {s : State} {b : BinId}

theorem noneRisen_setBin_state {x : BinState} {u : Bool} (hx : x ≠ .check)
    (hu : u = true → (s.bin b).uncertain = true) : s.NoneRisen (s.setBin b { s.bin b with state := x, uncertain := u }) :=
  noneRisen_setBin (fun h => absurd h hx) hu

/-- An accepted change of a bin's state that raises no condition, with its search round. -/
theorem acceptBin_round {u : State} (h : s.NoneRisen u) :
    acceptBin b [] u.searchRound s = (⟨.ok, u.searchRound.summary b⟩, u.searchRound) :=
  acceptBin_of (h.round u.roundFrame_searchRound) []

theorem exec_binDrain (h : s.asks p 0x22 f) {r : Reply} {t : State} (hb : binRequest 1 drainBin f.payload s = (r, t)) :
    exec (.binDrain p f) s = .next (t.answer p r) := exec_answer rfl h hb

theorem exec_binService (h : s.asks p 0x23 f) {r : Reply} {t : State}
    (hb : binRequest 1 serviceBin f.payload s = (r, t)) : exec (.binService p f) s = .next (t.answer p r) :=
  exec_answer rfl h hb

theorem exec_binLock (h : s.asks p 0x24 f) {r : Reply} {t : State} (hb : binRequest 1 lockBinBody f.payload s = (r, t)) :
    exec (.binLock p f) s = .next (t.answer p r) := exec_answer rfl h hb

theorem drainBin_service (h : (s.bin b).state = .service) :
    drainBin b s = (⟨.ok, (s.setBin b { s.bin b with state := .drain }).searchRound.summary b⟩,
      (s.setBin b { s.bin b with state := .drain }).searchRound) := by
  unfold drainBin
  rw [h]
  exact acceptBin_round (noneRisen_setBin_state nofun id)

theorem drainBin_drain (h : (s.bin b).state = .drain) : drainBin b s = (⟨.ok, s.summary b⟩, s) := by
  unfold drainBin
  rw [h]
  exact acceptBin_of (.refl s) []

theorem drainBin_refused (h : (s.bin b).state = .check ∨ (s.bin b).state = .lockout ∨ (s.bin b).state = .off) :
    drainBin b s = refuse .wrongState s := by
  unfold drainBin
  rcases h with h | h | h <;> rw [h]

theorem serviceBin_accepted (h : (s.bin b).state = .drain ∨
      (s.bin b).state = .lockout ∧ ((s.bin b).uncertain = false ∨ (s.bin b).stack = [])) :
    ∃ u : State, u = s.setBin b { s.bin b with
        state := .service
        uncertain := if (s.bin b).state = .lockout then false else (s.bin b).uncertain } ∧
      serviceBin b s = (⟨.ok, u.searchRound.summary b⟩, u.searchRound) := by
  refine ⟨_, rfl, ?_⟩
  have hround := acceptBin_round (b := b) (noneRisen_setBin_state (s := s) (b := b) (x := .service)
    (u := if (s.bin b).state = .lockout then false else (s.bin b).uncertain) nofun (by split <;> simp))
  rcases h with hdrain | ⟨hlock, hsafe⟩
  · rw [hdrain] at hround ⊢
    unfold serviceBin
    rw [hdrain]
    exact hround
  · have hnot : ¬((s.bin b).uncertain = true ∧ (s.bin b).stack ≠ []) := by
      rintro ⟨hu, hne⟩
      rcases hsafe with hf | hnil
      · rw [hf] at hu
        cases hu
      · exact hne hnil
    rw [hlock] at hround ⊢
    unfold serviceBin
    rw [hlock]
    refine (if_neg hnot).trans ?_
    rw [State.enterState, State.bin_setBin_self, State.setBin_setBin]
    exact hround

theorem serviceBin_service (h : (s.bin b).state = .service) : serviceBin b s = (⟨.ok, s.summary b⟩, s) := by
  unfold serviceBin
  rw [h]
  exact acceptBin_of (.refl s) []

theorem serviceBin_refused (h : (s.bin b).state = .check ∨ (s.bin b).state = .off ∨
      (s.bin b).state = .lockout ∧ (s.bin b).uncertain = true ∧ (s.bin b).stack ≠ []) :
    serviceBin b s = refuse .wrongState s := by
  unfold serviceBin
  rcases h with h | h | ⟨h, hbad⟩
  · rw [h]
  · rw [h]
  · rw [h]
    exact if_pos hbad

/-! ## BIN LOCK (R112) -/

/-- A bin record in LOCKOUT by BIN LOCK (R112). -/
def BinRec.locked (r : BinRec) : BinRec :=
  { r with
    state := .lockout, resume := none, claim := none
    questioned := if r.state = .check then none else r.questioned
    stray := if r.state = .check then false else r.stray
    uncertain := r.uncertain || r.state == .check }

/-- The state BIN LOCK hands to the search round: nothing inbound, so no entry to cancel (R112). -/
def State.locked (s : State) (b : BinId) : State :=
  ((s.setBin b (s.bin b).locked).bumpBy .questionedDiscarded
    (bit ((s.bin b).state == .check && (s.bin b).questioned.isSome))).floatRelease b

theorem State.lockBin_eq (h : s.inbound b = 0) : s.lockBin b = (s.locked b).searchRound := by
  have hentries : (s.gate b).entries = 0 := by
    unfold State.inbound at h
    omega
  have hlocked : ({ s.bin b with
      state := .lockout, resume := none, claim := none
      questioned := if (s.bin b).state == .check then none else (s.bin b).questioned
      stray := if (s.bin b).state == .check then false else (s.bin b).stray
      uncertain := (s.bin b).uncertain || (s.bin b).state == .check } : BinRec) = (s.bin b).locked := by
    simp only [BinRec.locked, beq_iff_eq]
  unfold State.lockBin
  dsimp only
  rw [hlocked]
  exact congrArg (fun t : State => (t.floatRelease b).searchRound) (State.cancelGate_of_entries hentries)

/-- The bin in LOCKOUT: FLOAT release may take its class, and no round touches it. -/
theorem State.bin_locked (s : State) (b : BinId) :
    (s.locked b).searchRound.bin b = { (s.bin b).locked with current := ((s.locked b).searchRound.bin b).current } := by
  have hbin : (s.locked b).bin b = { (s.bin b).locked with current := ((s.locked b).bin b).current } := by
    have hself : ((s.setBin b (s.bin b).locked).bumpBy .questionedDiscarded
        (bit ((s.bin b).state == .check && (s.bin b).questioned.isSome))).bin b = (s.bin b).locked :=
      State.bin_setBin_self s b _
    rw [State.locked, State.bin_floatRelease_self, hself]
    exact BinRec.floatRelease_eq _ _
  have hround : (s.locked b).searchRound.bin b = (s.locked b).bin b :=
    State.bin_searchRound_lockout (by rw [hbin]; rfl) (by rw [hbin]; rfl)
  rw [hround]
  exact hbin

theorem State.bin_locked_ne (s : State) {b c : BinId} (h : c ≠ b) : (s.locked b).bin c = s.bin c :=
  (State.bin_setBin_ne _ h _).trans (State.bin_setBin_ne s h _)

theorem lockBinBody_refused (h : (s.bin b).state = .lockout ∨ 0 < s.inbound b ∨ ∃ x ∈ (s.bin b).stack, x.reserved ≠ none) :
    lockBinBody b s = refuse .wrongState s := by
  refine if_pos (h.imp_right (Or.imp_right fun ⟨x, hx, hne⟩ => Nat.pos_of_ne_zero fun hzero => ?_))
  exact hne ((BinRec.reservedCount_eq_zero_iff _).1 hzero x hx)

theorem lockBinBody_accepted (hs : (s.bin b).state ≠ .lockout) (hin : s.inbound b = 0)
    (hfree : ∀ x ∈ (s.bin b).stack, x.reserved = none) :
    lockBinBody b s = acceptBin b [] (s.locked b).searchRound s := by
  have hcount := (BinRec.reservedCount_eq_zero_iff _).2 hfree
  have hok : ¬((s.bin b).state = .lockout ∨ 0 < s.inbound b ∨ 0 < (s.bin b).reservedCount) := by
    rw [hin, hcount]
    simpa using hs
  rw [lockBinBody, if_neg hok, State.lockBin_eq hin]

end States

/-- Settles O38: each request by the bin's state. -/
theorem binStateRequests : Obligations.BinStateRequests := by
  refine fun p f s => ⟨fun hbad => ?_, fun b hf => ⟨fun h => ⟨fun hs => ?_, fun hs => ?_, fun hs => ?_⟩,
    fun h => ⟨fun hs => ?_, fun hs => ?_, fun hs => ?_⟩, fun h => ⟨fun hs => ?_, fun hs hin hfree => ?_⟩⟩⟩
  · have hunfit := unfitByte_of hbad
    exact ⟨fun h => exec_binDrain h (binRequest_unfit hunfit), fun h => exec_binService h (binRequest_unfit hunfit),
      fun h => exec_binLock h (binRequest_unfit hunfit)⟩
  · refine ⟨_, _, exec_binDrain h ?_, rfl, State.roundFrame_searchRound _, rfl⟩
    exact (binRequest_on hf rfl (by rw [hs]; exact nofun)).trans (drainBin_service hs)
  · refine exec_binDrain h ?_
    exact (binRequest_on hf rfl (by rw [hs]; exact nofun)).trans (drainBin_drain hs)
  · exact exec_binDrain h (binRequest_wrongState hf rfl fun _ => drainBin_refused hs)
  · obtain ⟨u, hu, hbody⟩ := serviceBin_accepted hs
    refine ⟨_, u, exec_binService h ?_, hu, u.roundFrame_searchRound, rfl⟩
    refine (binRequest_on hf rfl ?_).trans hbody
    rcases hs with hs | ⟨hs, -⟩ <;> rw [hs] <;> exact nofun
  · refine exec_binService h ?_
    exact (binRequest_on hf rfl (by rw [hs]; exact nofun)).trans (serviceBin_service hs)
  · exact exec_binService h (binRequest_wrongState hf rfl fun _ => serviceBin_refused hs)
  · exact exec_binLock h (binRequest_wrongState hf rfl fun hon => lockBinBody_refused (hs.resolve_left hon))
  · have hstate : (s.bin b).state ≠ .off ∧ (s.bin b).state ≠ .lockout := by
      rcases hs with hs | hs | hs <;> rw [hs] <;> exact ⟨nofun, nofun⟩
    refine ⟨(s.locked b).searchRound.takeConditions s, exec_binLock h ((binRequest_on hf rfl hstate.1).trans
      (lockBinBody_accepted hstate.2 hin hfree)), ?_⟩
    have hround := (s.locked b).roundFrame_searchRound
    rw [State.bin_takeConditions, State.bin_locked]
    refine ⟨rfl, rfl, rfl, rfl, rfl, rfl, rfl, ?_, fun c hc => ?_, ?_, ?_, _, rfl, rfl⟩
    · exact (congrArg State.counters (State.takeConditions_eq _ s)).trans hround.counters
    · rw [State.bin_takeConditions, ← State.bin_locked_ne s hc]
      exact hround.bins c
    · exact (congrArg State.tracker (State.takeConditions_eq _ s)).trans hround.tracker
    · exact (congrArg State.gates (State.takeConditions_eq _ s)).trans hround.gates

end Sys2Proof.Machine
end

section
/-! BIN RESOLVE (R106 to R108), LOT HOLD and LOT RELEASE (R117, R118). -/

namespace Sys2Proof.Machine

set_option Elab.async false

open Sys2Proof

/-! ## BIN RESOLVE -/

section Resolve

variable {p : Port} {f : Frame} {s : State} {b : BinId} {l : List Byte} {x : Byte} {form : ResolveForm} {z : ResumeState}

/-- Each of the three rows answers by the frame's own form byte. -/
theorem exec_resolve (h : s.asks p 0x28 f) {r : Reply} {t : State} (hb : binResolveBody p f.payload s = (r, t)) :
    exec (.resolveLanded p f) s = .next (t.answer p r) ∧ exec (.resolveLost p f) s = .next (t.answer p r) ∧
      exec (.resolveClear p f) s = .next (t.answer p r) :=
  ⟨exec_answer rfl h hb, exec_answer rfl h hb, exec_answer rfl h hb⟩

theorem resolveForm_eq_none {n : Nat} (h : 2 < n) : resolveForm n = none := by
  unfold resolveForm
  split <;> grind

theorem resolveForm_of_le {n : Nat} (h : n ≤ 2) : ∃ form, resolveForm n = some form := by
  interval_cases n
  · exact ⟨.landed, rfl⟩
  · exact ⟨.lost, rfl⟩
  · exact ⟨.clear, rfl⟩

theorem binResolveBody_unfit (h : l.length ≠ 2 ∨ ∃ n x : Byte, l = [n, x] ∧ (n = 0 ∨ 16 < n.toNat ∨ 2 < x.toNat)) :
    binResolveBody p l s = refuse .badArg s := by
  unfold binResolveBody
  rcases h with hlen | ⟨n, x, rfl, hbad⟩
  · exact if_pos hlen
  · have hnone : binOfNumber (byteAt [n, x] 0) = none ∨ resolveForm (byteAt [n, x] 1) = none := by
      rcases hbad with rfl | hn | hx
      · exact .inl rfl
      · exact .inl (binOfNumber_eq_none.2 (.inr hn))
      · exact .inr (resolveForm_eq_none hx)
    split
    · rfl
    · split
      · rename_i b' form hb hform
        rw [hb, hform] at hnone
        rcases hnone with h | h <;> cases h
      · rfl

theorem binResolveBody_of (hl : l = [u8 (binNumber b), x]) (hx : resolveForm x.toNat = some form) :
    binResolveBody p l s =
      if (s.bin b).state ≠ .check then refuse .wrongState s
      else if !(s.bin b).resolvable form then refuse .badArg s
      else acceptBin b [] (s.resolve b form) s := by
  have hb : binOfNumber (byteAt l 0) = some b := by
    rw [hl, byteAt_cons_zero, toNat_u8_binNumber, binOfNumber_binNumber]
  have hform : resolveForm (byteAt l 1) = some form := by
    rw [hl]
    exact hx
  unfold binResolveBody
  rw [if_neg (by rw [hl]; exact not_not.2 rfl), hb, hform]

theorem binResolveBody_wrongState (hl : l = [u8 (binNumber b), x]) (hx : x.toNat ≤ 2) (hs : (s.bin b).state ≠ .check) :
    binResolveBody p l s = refuse .wrongState s := by
  obtain ⟨form, hform⟩ := resolveForm_of_le hx
  exact (binResolveBody_of hl hform).trans (if_pos hs)

theorem binResolveBody_misfit (hl : l = [u8 (binNumber b), x]) (hx : resolveForm x.toNat = some form)
    (hs : (s.bin b).state = .check) (hfit : (s.bin b).resolvable form = false) :
    binResolveBody p l s = refuse .badArg s :=
  (binResolveBody_of hl hx).trans ((if_neg (not_not.2 hs)).trans (if_pos (by rw [hfit]; rfl)))

/-- A form that fits the doubt, whose change raises no condition: one round, and the summary after it. -/
theorem binResolveBody_accepted {u : State} (hl : l = [u8 (binNumber b), x]) (hx : resolveForm x.toNat = some form)
    (hs : (s.bin b).state = .check) (hfit : (s.bin b).resolvable form = true) (hu : s.resolve b form = u.searchRound)
    (hnone : s.NoneRisen u) : binResolveBody p l s = (⟨.ok, u.searchRound.summary b⟩, u.searchRound) := by
  refine (binResolveBody_of hl hx).trans ((if_neg (not_not.2 hs)).trans ((if_neg (by rw [hfit]; exact nofun)).trans ?_))
  rw [hu]
  exact acceptBin_round hnone

theorem BinRec.resumed_of {r : BinRec} (h : r.resume = some z) :
    r.resumed = { r with state := z.state, resume := none } := by
  unfold BinRec.resumed
  rw [h]

/-- A bin that leaves CHECK raises no condition. -/
theorem noneRisen_resumed {r : BinRec} (hstate : r.state = z.state) (hu : r.uncertain = (s.bin b).uncertain) :
    s.NoneRisen (s.setBin b r) := by
  refine noneRisen_setBin (fun h => ?_) fun h => hu ▸ h
  rw [hstate] at h
  cases z <;> cases h

theorem noneRisen_resolveLost (z : ResumeState) :
    s.NoneRisen (((s.setBin b { s.bin b with questioned := none, state := z.state, resume := none }).bump
      .questionedDiscarded).floatRelease b) := by
  refine .trans (.trans ?_ (noneRisen_bumpBy _ _ _)) (noneRisen_floatRelease _ b)
  exact noneRisen_resumed (z := z) rfl rfl

/-- The record of the bin after an accepted RESOLVE LANDED (R107). -/
def State.insertQuestioned (s : State) (b : BinId) (q : Questioned) (z : ResumeState) : BinRec :=
  { s.bin b with
    stack := (s.bin b).stack.take q.position ++
      { q.sheet with held := s.lotHolds.contains q.sheet.lot, reserved := none } :: (s.bin b).stack.drop q.position
    questioned := none, state := z.state, resume := none }

theorem State.resolveLanded_eq {q : Questioned} (hq : (s.bin b).questioned = some q) (hz : (s.bin b).resume = some z) :
    s.resolveLanded b = (s.setBin b (s.insertQuestioned b q z)).bump .landed := by
  unfold State.resolveLanded
  dsimp only
  rw [hq]
  exact congrArg (fun r => (s.setBin b r).bump .landed) (BinRec.resumed_of hz)

theorem State.resolveLost_eq (hz : (s.bin b).resume = some z) :
    s.resolveLost b =
      ((s.setBin b { s.bin b with questioned := none, state := z.state, resume := none }).bump
        .questionedDiscarded).floatRelease b :=
  congrArg (fun r => ((s.setBin b r).bump .questionedDiscarded).floatRelease b) (BinRec.resumed_of hz)

theorem State.resolveClear_eq (hz : (s.bin b).resume = some z) :
    s.resolveClear b = s.setBin b { s.bin b with stray := false, state := z.state, resume := none } :=
  congrArg (fun r => s.setBin b r) (BinRec.resumed_of hz)

end Resolve

/-- Settles O37: each form by the doubt of the bin, whatever row carries it. -/
theorem binResolve : Obligations.BinResolve := by
  refine fun p f s h => ⟨fun hbad => exec_resolve h (binResolveBody_unfit hbad), fun b =>
    ⟨fun x hf hx hs => exec_resolve h (binResolveBody_wrongState hf hx hs), fun hs => ⟨fun hq => ⟨fun hf => ?_, fun hf => ?_⟩,
      fun hstray hf => ?_, fun z hz => ⟨fun q hq => ⟨fun hf => ?_, fun hf => ?_⟩, fun hstray hf => ?_⟩⟩⟩⟩
  · exact (exec_resolve h (binResolveBody_misfit (form := .landed) hf rfl hs (by rw [BinRec.resolvable, hq]; rfl))).1
  · exact (exec_resolve h (binResolveBody_misfit (form := .lost) hf rfl hs (by rw [BinRec.resolvable, hq]; rfl))).2.1
  · exact (exec_resolve h (binResolveBody_misfit (form := .clear) hf rfl hs hstray)).2.2
  · have hbody := binResolveBody_accepted (p := p) (form := .landed) hf rfl hs (by rw [BinRec.resolvable, hq]; rfl)
      (congrArg State.searchRound (State.resolveLanded_eq hq hz))
      (.trans (t := s.setBin b (s.insertQuestioned b q z)) (noneRisen_resumed (z := z) rfl rfl) (noneRisen_bumpBy _ _ _))
    exact ⟨_, _, (exec_resolve h hbody).1, rfl, State.roundFrame_searchRound _, rfl⟩
  · have hbody := binResolveBody_accepted (p := p) (form := .lost) hf rfl hs (by rw [BinRec.resolvable, hq]; rfl)
      (congrArg State.searchRound (State.resolveLost_eq hz))
      (noneRisen_resolveLost z)
    exact ⟨_, _, (exec_resolve h hbody).2.1, rfl, State.roundFrame_searchRound _, rfl⟩
  · have hbody := binResolveBody_accepted (p := p) (form := .clear) hf rfl hs hstray
      (congrArg State.searchRound (State.resolveClear_eq hz)) (noneRisen_resumed (z := z) rfl rfl)
    exact ⟨_, _, (exec_resolve h hbody).2.2, rfl, State.roundFrame_searchRound _, rfl⟩

/-! ## LOT HOLD and LOT RELEASE -/

section Lots

variable {p : Port} {f : Frame} {s : State} {lot : LotNo} {held : Bool}

theorem exec_lotHold (h : s.asks p 0x30 f) {r : Reply} {t : State} (hb : lotHoldBody p f.payload s = (r, t)) :
    exec (.lotHold p f) s = .next (t.answer p r) := exec_answer rfl h hb

theorem exec_lotRelease (h : s.asks p 0x31 f) {r : Reply} {t : State} (hb : lotReleaseBody p f.payload s = (r, t)) :
    exec (.lotRelease p f) s = .next (t.answer p r) := exec_answer rfl h hb

theorem lotAt_be16 (lot : LotNo) : lotAt (be16 lot.toNat) = lot := ofNat_nat16At_be16 lot

theorem State.isHeld_iff : s.isHeld lot = true ↔ lot ∈ s.lotHolds := List.contains_iff_mem

/-- The records of a lot marked or unmarked, bin by bin (R117, R118). -/
theorem State.bin_markLot (s : State) (lot : LotNo) (held : Bool) (b : BinId) :
    (s.markLot lot held).bin b = { s.bin b with
      stack := (s.bin b).stack.map fun x => { x with held := if x.lot = lot then held else x.held } } := by
  rw [State.markLot, State.bin_mapBins]
  refine congrArg (fun l => ({ s.bin b with stack := l } : BinRec)) (List.map_congr_left fun x _ => ?_)
  split <;> rfl

theorem lotHoldBody_new (hlot : lot ∉ s.lotHolds) :
    lotHoldBody p (be16 lot.toNat) s =
      if 8 ≤ s.lotHolds.length then refuse .full s
      else (⟨.ok, be16 (binsInOrder.map fun b => (s.bin b).stack.countP (·.lot == lot)).sum⟩,
        ({ s with lotHolds := s.lotHolds ++ [lot] } : State).markLot lot true) := by
  rw [lotHoldBody, if_neg (by simp), lotAt_be16, if_neg (mt State.isHeld_iff.1 hlot)]
  rfl

theorem lotHoldBody_held (hlot : lot ∈ s.lotHolds) : lotHoldBody p (be16 lot.toNat) s = (⟨.ok, [0, 0]⟩, s) := by
  rw [lotHoldBody, if_neg (by simp), lotAt_be16, if_pos (State.isHeld_iff.2 hlot)]
  rfl

theorem lotReleaseBody_refused (hlot : lot ∉ s.lotHolds) :
    lotReleaseBody p (be16 lot.toNat) s = refuse .badArg s := by
  refine if_pos (.inr ?_)
  rw [lotAt_be16, Bool.eq_false_iff.2 (mt State.isHeld_iff.1 hlot)]
  rfl

/-- The state a release hands to the search round: the lot off the list, its records unmarked (R118). -/
def State.released (s : State) (lot : LotNo) : State :=
  ({ s with lotHolds := s.lotHolds.filter (· ≠ lot) } : State).markLot lot false

theorem lotReleaseBody_accepted (hlot : lot ∈ s.lotHolds) {n : Nat}
    (hn : (binsInOrder.map fun b => (s.bin b).stack.countP fun x => x.lot == lot && x.held).sum = n) :
    lotReleaseBody p (be16 lot.toNat) s =
      (⟨.ok, be16 n⟩, if 0 < n then (s.released lot).searchRound else s.released lot) := by
  have hok : ¬((be16 lot.toNat).length ≠ 2 ∨ (!s.isHeld (lotAt (be16 lot.toNat))) = true) := by
    rw [lotAt_be16, State.isHeld_iff.2 hlot]
    simp
  subst hn
  refine (if_neg hok).trans ?_
  rw [lotAt_be16]
  rfl

/-- The count of a release is above 0 when a mark is cleared (R118). -/
theorem count_marked_pos :
    0 < (binsInOrder.map fun b => (s.bin b).stack.countP fun x => x.lot == lot && x.held).sum ↔
      ∃ b, ∃ x ∈ (s.bin b).stack, x.lot = lot ∧ x.held = true := by
  rw [Nat.pos_iff_ne_zero, Ne, List.sum_eq_zero_iff]
  simp [mem_binsInOrder, List.countP_eq_zero]

end Lots

/-- Settles O40: the lot joins or leaves the list, with the marks of its records. -/
theorem lotHoldAndRelease : Obligations.LotHoldAndRelease := by
  refine fun p f s => ⟨fun hlen => ⟨fun h => exec_lotHold h (if_pos hlen), fun h => exec_lotRelease h (if_pos (.inl hlen))⟩,
    fun lot hf => ⟨fun h => ⟨fun hlot => ?_, fun hlot hfull => ?_, fun hlot hroom => ?_⟩,
      fun h => ⟨fun hlot => ?_, fun hlot => ?_⟩⟩⟩
  · exact exec_lotHold h (hf.symm ▸ lotHoldBody_held hlot)
  · exact exec_lotHold h (hf.symm ▸ (lotHoldBody_new hlot).trans (if_pos hfull))
  · have hbody := (lotHoldBody_new (p := p) hlot).trans (if_neg (Nat.not_le.2 hroom))
    rw [← hf] at hbody
    exact ⟨_, exec_lotHold h hbody, rfl, fun b => State.bin_markLot _ lot true b⟩
  · exact exec_lotRelease h (hf.symm ▸ lotReleaseBody_refused hlot)
  · have hbody := lotReleaseBody_accepted (p := p) hlot rfl
    rw [← hf] at hbody
    refine ⟨_, s.released lot, exec_lotRelease h hbody, rfl, fun b => State.bin_markLot _ lot false b, ?_,
      fun hcleared => if_pos (count_marked_pos.2 hcleared), fun hnone => if_neg (mt count_marked_pos.1 hnone)⟩
    split
    · exact State.roundFrame_searchRound _
    · exact .refl _

end Sys2Proof.Machine
end

section
/-! The expiry of a landing window (R101, R103). -/

namespace Sys2Proof.Machine

set_option Elab.async false

open Sys2Proof

/-! ## A doubt at one bin -/

section Doubt

variable {s u t : State} {b : BinId} {g : Flag}

/-- What a doubt at bin `b`, reported by flag `g`, does outside that bin's record: the cancellation of its entries, and the
flag, unseen, on every port. -/
structure State.DoubtFrame (s : State) (b : BinId) (g : Flag) (u : State) : Prop where
  others : ∀ c, c ≠ b → (s.bin c).RoundFrame (u.bin c)
  gates : u.gates = (s.cancelGate b).gates
  tracker : u.tracker = (s.cancelGate b).tracker
  flag : ∀ p : Port, (u.port p).flags.getLsbD g.index = true ∧ (u.port p).seen.getLsbD g.index = false

/-- The flags that neither a search round nor the conditions touch. -/
def Flag.Apart (g : Flag) : Prop := g.index ≠ 1 ∧ g.index ≠ 12 ∧ g.index ≠ 13 ∧ g.index ≠ 14

theorem State.port_takeConditions_flag (s before : State) (p : Port) {i : Nat} (h12 : i ≠ 12) (h13 : i ≠ 13)
    (h14 : i ≠ 14) : ((s.takeConditions before).port p).flags.getLsbD i = (s.port p).flags.getLsbD i ∧
      ((s.takeConditions before).port p).seen.getLsbD i = (s.port p).seen.getLsbD i := by
  obtain ⟨flags, seen, hport, hbits⟩ := s.takeConditions_port_bits before p
  obtain ⟨hflag, hseen⟩ := hbits i false (by simp [h12, h13, h14])
  rw [hport]
  exact ⟨hflag, hseen⟩

/-- A doubt, a search round and the conditions taken afresh. -/
theorem State.DoubtFrame.after (h : s.DoubtFrame b g u) (hg : g.Apart) (hround : u.RoundFrame t) (before : State) :
    s.DoubtFrame b g (t.takeConditions before) where
  others c hc := by
    rw [State.bin_takeConditions]
    exact (h.others c hc).trans (hround.bins c)
  gates := (congrArg State.gates (t.takeConditions_eq before)).trans (hround.gates.trans h.gates)
  tracker := (congrArg State.tracker (t.takeConditions_eq before)).trans (hround.tracker.trans h.tracker)
  flag p := by
    obtain ⟨h1, h12, h13, h14⟩ := hg
    obtain ⟨htaken, htakenSeen⟩ := t.port_takeConditions_flag before p h12 h13 h14
    obtain ⟨hflag, hseen⟩ := hround.flag p h1
    rw [htaken, htakenSeen, hflag, hseen]
    exact h.flag p

/-- The gates after a doubt: the cancelled one, and the others as they were. -/
theorem State.DoubtFrame.gate (h : s.DoubtFrame b g u) :
    u.gate b = (s.gate b).cancelled ∧ ∀ c, c ≠ b → u.gate c = s.gate c := by
  have hsite (c : BinId) := s.site_cancelGate b c
  have hgate (c : BinId) : u.gate c = ((s.cancelGate b).site c).gate := State.gate_congr h.gates c
  refine ⟨?_, fun c hc => ?_⟩
  · rw [hgate, hsite, if_pos rfl]
  · rw [hgate, hsite, if_neg hc]
    rfl

theorem State.counters_afterRound (hround : u.RoundFrame t) (before : State) :
    (t.takeConditions before).counters = u.counters :=
  (congrArg State.counters (t.takeConditions_eq before)).trans hround.counters

/-- The counters and flags of a doubt, and the record of its bin. -/
theorem doubtFrame_of (r : BinRec) (k : State → State) (hbins : (k (s.cancelGate b)).bins = s.bins)
    (hgates : (k (s.cancelGate b)).gates = (s.cancelGate b).gates)
    (htracker : (k (s.cancelGate b)).tracker = (s.cancelGate b).tracker) :
    s.DoubtFrame b g (((k (s.cancelGate b)).raiseAll g).setBin b r) where
  others c hc := by
    rw [State.bin_setBin_ne _ hc, State.bin_congr (s := s) ((State.raiseAll_bins _ _).trans hbins)]
  gates := ((State.setBin_gates _ _ _).trans (State.raiseAll_gates _ _)).trans hgates
  tracker := ((State.setBin_tracker _ _ _).trans (State.raiseAll_tracker _ _)).trans htracker
  flag p := State.port_raiseAll_flag _ g p

theorem State.DoubtFrame.floatRelease (h : s.DoubtFrame b g u) : s.DoubtFrame b g (u.floatRelease b) where
  others c hc := by
    rw [State.floatRelease, State.bin_setBin_ne _ hc]
    exact h.others c hc
  gates := h.gates
  tracker := h.tracker
  flag := h.flag

theorem BinRec.RoundFrame.fields {r r' : BinRec} (h : r.RoundFrame r') :
    r'.state = r.state ∧ r'.questioned = r.questioned ∧ r'.inFlight = r.inFlight ∧ r'.resume = r.resume ∧
      r'.stray = r.stray ∧ r'.current = r.current ∧ r'.stack.map Sheet.unmarked = r.stack.map Sheet.unmarked := by
  obtain ⟨hrec, hstack⟩ := h
  rw [hrec]
  exact ⟨rfl, rfl, rfl, rfl, rfl, rfl, hstack⟩

/-- After a round, of the bin's record the claim and the reservation marks alone have changed. -/
theorem State.bin_afterRound (hround : u.RoundFrame t) (before : State) (b : BinId) :
    (u.bin b).RoundFrame ((t.takeConditions before).bin b) := by
  rw [State.bin_takeConditions]
  exact hround.bins b

end Doubt

/-! ## The missed drop and the second failure -/

section Expiry

variable {s : State} {b : BinId} {x : InFlight} {front behind : List InFlight}

theorem find?_inFlight_split (h : ∀ y ∈ front ++ behind, y.sheet.store ≠ x.sheet.store) :
    (front ++ x :: behind).find? (fun y => decide (y.sheet.store = x.sheet.store)) = some x := by
  have hnone : front.find? (fun y => decide (y.sheet.store = x.sheet.store)) = none := by
    simpa using fun y hy => h y (List.mem_append_left _ hy)
  simp [List.find?_append, hnone]

theorem filter_inFlight_split (h : ∀ y ∈ front ++ behind, y.sheet.store ≠ x.sheet.store) :
    (front ++ x :: behind).filter (fun y => decide (y.sheet.store ≠ x.sheet.store)) = front ++ behind := by
  have hkept (l : List InFlight) (hl : ∀ y ∈ l, y.sheet.store ≠ x.sheet.store) :
      l.filter (fun y => decide (y.sheet.store ≠ x.sheet.store)) = l :=
    List.filter_eq_self.2 fun y hy => decide_eq_true (hl y hy)
  rw [List.filter_append, List.filter_cons_of_neg (by simp), hkept front fun y hy => h y (List.mem_append_left _ hy),
    hkept behind fun y hy => h y (List.mem_append_right _ hy)]

/-- A window that has run out by now. -/
theorem State.reachTime_of_le {n : Nat} (h : n ≤ s.now) : s.reachTime n = s := by
  rw [State.reachTime, Nat.max_eq_left h]

/-- The state a missed drop hands to its search round (R101). -/
def State.missed (s : State) (b : BinId) (x : InFlight) (rest : List InFlight) (z : Option ResumeState) : State :=
  (((s.cancelGate b).bump .missedDrops).raiseAll .missedDrop).setBin b { s.bin b with
    inFlight := rest, questioned := some ⟨x.sheet, (s.bin b).stack.length⟩, state := .check, resume := z }

/-- The record of a bin after a second failure (R103). -/
def BinRec.failed (r : BinRec) : BinRec :=
  { r with
    state := .lockout, questioned := none, inFlight := [], resume := none, stray := false, uncertain := true
    claim := none }

/-- The state a second failure hands to its search round, with its counter and its flag (R103). -/
def State.failed (s : State) (b : BinId) (c : Counter) (n : Nat) (g : Flag) : State :=
  (((((s.cancelGate b).bump c).bumpBy .questionedDiscarded n).raiseAll g).setBin b (s.bin b).failed).floatRelease b

theorem State.windowExpiry_of (hin : (s.bin b).inFlight = front ++ x :: behind)
    (h : ∀ y ∈ front ++ behind, y.sheet.store ≠ x.sheet.store) (hx : x.expiry ≤ s.now) :
    ((s.bin b).state = .service ∨ (s.bin b).state = .drain →
      s.windowExpiry b x.sheet.store =
        (s.missed b x (front ++ behind) (if (s.bin b).state = .service then some .service else some .drain)).searchRound) ∧
    ((s.bin b).state = .check →
      s.windowExpiry b x.sheet.store =
        (s.failed b .missedDrops (bit (s.bin b).questioned.isSome + (s.bin b).inFlight.length) .missedDrop).searchRound) := by
  have hfind : (s.bin b).inFlight.find? (fun y => decide (y.sheet.store = x.sheet.store)) = some x := by
    rw [hin, find?_inFlight_split h]
  have hfilter : (s.bin b).inFlight.filter (fun y => decide (y.sheet.store ≠ x.sheet.store)) = front ++ behind := by
    rw [hin, filter_inFlight_split h]
  have hmiss (z : Option ResumeState) (hz : (s.bin b).state.resume = z) :
      ((s.reachTime x.expiry).missDrop b x).countMissed = s.missed b x (front ++ behind) z := by
    rw [State.reachTime_of_le hx, State.missDrop]
    rw [hfilter, hz]
    rfl
  refine ⟨fun hs => ?_, fun hs => ?_⟩
  · unfold State.windowExpiry
    rw [hfind]
    dsimp only
    rcases hs with hs | hs
    all_goals
      rw [hs]
      exact congrArg State.searchRound (hmiss _ (by rw [hs]; rfl))
  · unfold State.windowExpiry
    rw [hfind]
    dsimp only
    rw [hs, State.reachTime_of_le hx]
    rfl

theorem State.doubtFrame_missed (s : State) (b : BinId) (x : InFlight) (rest : List InFlight) (z : Option ResumeState) :
    s.DoubtFrame b .missedDrop (s.missed b x rest z) :=
  doubtFrame_of (k := fun v => v.bump .missedDrops) _ rfl rfl rfl

theorem State.doubtFrame_failed (s : State) (b : BinId) (c : Counter) (n : Nat) (g : Flag) :
    s.DoubtFrame b g (s.failed b c n g) :=
  (doubtFrame_of (k := fun v => (v.bump c).bumpBy .questionedDiscarded n) _ rfl rfl rfl).floatRelease

/-- The bin after a second failure: FLOAT release may take its class, and neither the round nor the conditions touch it. -/
theorem State.bin_failed (s : State) (b : BinId) (c : Counter) (n : Nat) (g : Flag) (before : State) :
    ((s.failed b c n g).searchRound.takeConditions before).bin b =
      { (s.bin b).failed with
        current := (((s.failed b c n g).searchRound.takeConditions before).bin b).current } := by
  have hbin : (s.failed b c n g).bin b = { (s.bin b).failed with current := ((s.failed b c n g).bin b).current } := by
    rw [State.failed, State.bin_floatRelease_self, State.bin_setBin_self]
    exact BinRec.floatRelease_eq _ _
  have hround : (s.failed b c n g).searchRound.bin b = (s.failed b c n g).bin b :=
    State.bin_searchRound_lockout (by rw [hbin]; rfl) (by rw [hbin]; rfl)
  rw [State.bin_takeConditions, hround]
  exact hbin

theorem State.counters_failed (s : State) (b : BinId) (c : Counter) (n : Nat) (g : Flag) :
    (s.failed b c n g).counters = ((s.bump c).bumpBy .questionedDiscarded n).counters := State.raiseAll_counters _ g

end Expiry

/-- Settles O36: the missed drop and the second failure, each with its round. -/
theorem windowExpiry : Obligations.WindowExpiry := by
  intro s b x front behind hin h hx
  obtain ⟨hworking, hcheck⟩ := State.windowExpiry_of hin h hx
  have hexec {u : State} (hu : s.windowExpiry b x.sheet.store = u) :
      exec (.windowExpiry b x.sheet.store) s = .next (u.takeConditions s) :=
    congrArg (fun v : State => Host.Outcome.next (v.takeConditions s)) hu
  have hapart : Flag.missedDrop.Apart := by
    unfold Flag.Apart
    decide
  refine ⟨fun hs => ?_, fun hs => ?_⟩
  · obtain ⟨z, hz⟩ : ∃ z : Option ResumeState, z = if (s.bin b).state = .service then some .service else some .drain :=
      ⟨_, rfl⟩
    have hround := (s.missed b x (front ++ behind) z).roundFrame_searchRound
    have hframe := (s.doubtFrame_missed b x (front ++ behind) z).after hapart hround s
    have hcounters := State.counters_afterRound hround s
    have hbin := State.bin_afterRound hround s b
    rw [State.missed, State.bin_setBin_self, ← State.missed] at hbin
    obtain ⟨hstate, hquestioned, hinFlight, hresume, hstray, hcurrent, hstack⟩ := hbin.fields
    rw [← hz] at hworking ⊢
    exact ⟨_, hexec (hworking hs), hstate, hquestioned, hinFlight, hresume, hstray, hcurrent, hstack,
      congrArg Gate.lead hframe.gate.1, congrArg Gate.follow hframe.gate.1, hcounters, hframe.tracker, hframe.flag,
      fun c hc => ⟨hframe.others c hc, hframe.gate.2 c hc⟩, _, rfl, rfl⟩
  · have hround := (s.failed b .missedDrops (bit (s.bin b).questioned.isSome + (s.bin b).inFlight.length)
      .missedDrop).roundFrame_searchRound
    have hframe := (s.doubtFrame_failed b .missedDrops (bit (s.bin b).questioned.isSome + (s.bin b).inFlight.length)
      .missedDrop).after hapart hround s
    have hcounters := State.counters_afterRound hround s
    refine ⟨_, hexec (hcheck hs), ?_⟩
    rw [State.bin_failed, hframe.gate.1]
    refine ⟨rfl, rfl, rfl, rfl, rfl, rfl, rfl, rfl, rfl, rfl, hframe.tracker, hframe.others,
      hcounters.trans (State.counters_failed s b _ _ _), hframe.flag, fun c => State.gate_congr hframe.gates c, _, rfl, rfl⟩

end Sys2Proof.Machine
end

section
/-! Lost grants, their plies re-served, and the revocation of a bin's reservations (R160, R164). -/

namespace Sys2Proof.Machine

set_option Elab.async false

open Sys2Proof

/-! ## Several records sent to one port -/

theorem State.setPort_setPort (s : State) (p : Port) (r r' : PortRec) :
    (s.setPort p r).setPort p r' = s.setPort p r' := by
  rcases p with _ | _ | _ <;> rfl

theorem State.setPort_self (s : State) (p : Port) : s.setPort p (s.port p) = s := by
  rcases p with _ | _ | _ <;> rfl

/-- Records sent to a queue with room for all of them (R199). -/
theorem State.sends_room {s : State} {p : Port} (l : List OutcomeRec) (h : (s.port p).outcomes.length + l.length ≤ 8) :
    l.foldl (fun t o => t.send p o) s = s.setPort p { s.port p with outcomes := (s.port p).outcomes ++ l } := by
  induction l generalizing s with
  | nil => rw [List.foldl_nil, List.append_nil, s.setPort_self]
  | cons o l ih =>
    rw [List.length_cons] at h
    have hsend := State.send_room (s := s) (p := p) (by omega) o
    rw [List.foldl_cons, hsend, ih (by rw [State.port_setPort_self, List.length_append, List.length_singleton]; omega),
      State.port_setPort_self, State.setPort_setPort, List.append_assoc]
    rfl

/-! ## Lost grants -/

section Lost

variable {r : FeederRec} {e : Grant} {rest : List Grant}

/-- A feeder's grants name different stores, its call grants are call plies, and the patch's is a patch. -/
structure FeederRec.GrantsApart (r : FeederRec) : Prop where
  nodup : (r.allGrants.map (·.store)).Nodup
  call : ∀ g ∈ r.grants, g.entry.origin.isPatch = false
  patch : ∀ g, r.patch = .granted g → g.entry.origin.isPatch = true

/-- Grants of one store are one grant. -/
theorem FeederRec.GrantsApart.eq_of_store (h : r.GrantsApart) {g : Grant} (hg : g ∈ r.allGrants) (he : e ∈ r.allGrants)
    (hstore : g.store = e.store) : g = e := List.inj_on_of_nodup_map h.nodup hg he hstore

theorem FeederRec.mem_allGrants {g : Grant} : g ∈ r.allGrants ↔ g ∈ r.grants ∨ r.patch = .granted g := by
  unfold FeederRec.allGrants PatchSlot.grant
  rw [List.mem_append]
  cases r.patch <;> simp [eq_comm]

theorem FeederRec.GrantsApart.isPatch_iff (h : r.GrantsApart) (he : e ∈ r.allGrants) :
    e.entry.origin.isPatch = true ↔ r.patch = .granted e := by
  refine ⟨fun hp => ?_, h.patch e⟩
  rcases FeederRec.mem_allGrants.1 he with hcall | hpatch
  · rw [h.call e hcall] at hp
    cases hp
  · exact hpatch

theorem FeederRec.GrantsApart.mem_grants (h : r.GrantsApart) (he : e ∈ r.allGrants) (hp : e.entry.origin.isPatch = false) :
    e ∈ r.grants := by
  rcases FeederRec.mem_allGrants.1 he with hcall | hpatch
  · exact hcall
  · rw [h.patch e hpatch] at hp
    cases hp

theorem FeederRec.GrantsApart.grantOf (h : r.GrantsApart) (he : e ∈ r.allGrants) : r.grantOf e.store = some e := by
  unfold FeederRec.grantOf
  split
  · rename_i g hg
    have hstore : g.store = e.store := by simpa using List.find?_some hg
    exact congrArg some (h.eq_of_store (FeederRec.mem_allGrants.2 (.inl (List.mem_of_find?_eq_some hg))) he hstore)
  · rename_i hnone
    have hpatch : r.patch = .granted e := by
      refine (FeederRec.mem_allGrants.1 he).resolve_left fun hmem => ?_
      simpa using List.find?_eq_none.1 hnone e hmem
    rw [hpatch]
    exact if_pos rfl

/-- A ply put back in the unserved list, behind those put back before it (R160). -/
def Grant.reServed (e : Grant) : PlyEntry := { e.entry with reServed := true }

/-- A feeder's record once the grants of a list are lost, first to last: the call plies stand re-served in that order behind
those re-served before them, a patch returns to its slot (R160, R164). -/
def FeederRec.losing (r : FeederRec) (lost : List Grant) : FeederRec :=
  { r with
    grants := r.grants.filter fun x => !(lost.map (·.store)).contains x.store
    unserved := r.unserved.takeWhile (·.reServed) ++
      (lost.filter fun e => !e.entry.origin.isPatch).map Grant.reServed ++ r.unserved.dropWhile (·.reServed)
    patch := match lost.find? (fun e => e.entry.origin.isPatch) with
      | some e => .unserved e.reServed
      | none => r.patch }

theorem FeederRec.losing_nil (r : FeederRec) : r.losing [] = r := by
  simp [FeederRec.losing, List.takeWhile_append_dropWhile]

theorem FeederRec.losing_call (hp : e.entry.origin.isPatch = false) :
    r.losing [e] = { r with
      grants := r.grants.filter fun x => x.store ≠ e.store, unserved := insertReServed e.reServed r.unserved } := by
  simp [FeederRec.losing, insertReServed, hp]

theorem FeederRec.losing_patch (hp : e.entry.origin.isPatch = true) :
    r.losing [e] = { r with
      grants := r.grants.filter fun x => x.store ≠ e.store, patch := .unserved e.reServed } := by
  simp [FeederRec.losing, hp, List.takeWhile_append_dropWhile]

/-- One grant lost (R160). -/
theorem FeederRec.GrantsApart.loseGrant (h : r.GrantsApart) (he : e ∈ r.allGrants) :
    r.loseGrant e.store = r.losing [e] := by
  unfold FeederRec.loseGrant
  rw [h.grantOf he]
  dsimp only
  unfold FeederRec.reServe
  cases hp : e.entry.origin.isPatch with
  | true =>
    rw [FeederRec.losing_patch hp]
    rfl
  | false =>
    have hkept : (r.withoutGrant e.store).patch = r.patch := by
      unfold FeederRec.withoutGrant
      cases hpatch : r.patch with
      | granted g =>
        refine if_neg fun hstore => ?_
        have hge := h.eq_of_store (FeederRec.mem_allGrants.2 (.inr hpatch)) he hstore
        rw [← hge, h.patch g hpatch] at hp
        cases hp
      | empty => rfl
      | unserved x => rfl
    rw [FeederRec.losing_call hp]
    refine (if_neg (by simp)).trans ?_
    exact congrArg (fun x : PatchSlot => ({ r with
      grants := r.grants.filter fun x => x.store ≠ e.store, patch := x
      unserved := insertReServed e.reServed r.unserved } : FeederRec)) hkept

theorem FeederRec.GrantsApart.allGrants_losing (h : r.GrantsApart) (he : e ∈ r.allGrants) :
    (r.losing [e]).allGrants = r.allGrants.filter fun x => x.store ≠ e.store := by
  cases hp : e.entry.origin.isPatch with
  | true =>
    have hpatch := (h.isPatch_iff he).1 hp
    rw [FeederRec.losing_patch hp]
    simp [FeederRec.allGrants, PatchSlot.grant, hpatch]
  | false =>
    rw [FeederRec.losing_call hp]
    unfold FeederRec.allGrants
    rw [List.filter_append]
    refine congrArg _ (List.filter_eq_self.2 fun g hg => decide_eq_true (p := g.store ≠ e.store) fun hstore => ?_).symm
    have hpatch : r.patch = .granted g := by
      cases hslot : r.patch <;> rw [hslot] at hg <;> simp_all [PatchSlot.grant]
    have hge := h.eq_of_store (FeederRec.mem_allGrants.2 (.inr hpatch)) he hstore
    rw [← hge, h.patch g hpatch] at hp
    cases hp

theorem FeederRec.GrantsApart.losing (h : r.GrantsApart) (he : e ∈ r.allGrants) : (r.losing [e]).GrantsApart where
  nodup := by
    rw [h.allGrants_losing he]
    exact h.nodup.sublist (List.filter_sublist.map _)
  call g hg := h.call g (List.mem_filter.1 hg).1
  patch g hg := by
    cases hp : e.entry.origin.isPatch with
    | true =>
      rw [FeederRec.losing_patch hp] at hg
      cases hg
    | false =>
      rw [FeederRec.losing_call hp] at hg
      exact h.patch g hg

/-- The plies put back behind a ply just put back (R160). -/
theorem insert_reServed (l m : List PlyEntry) {x : PlyEntry} (hx : x.reServed = true) :
    (insertReServed x l).takeWhile (·.reServed) ++ m ++ (insertReServed x l).dropWhile (·.reServed) =
      l.takeWhile (·.reServed) ++ (x :: m) ++ l.dropWhile (·.reServed) := by
  have hfront : ∀ y ∈ l.takeWhile (·.reServed), y.reServed = true := fun y hy => List.mem_takeWhile_imp hy
  have htake : (l.dropWhile (·.reServed)).takeWhile (·.reServed) = [] := by
    have := List.takeWhile_append_dropWhile (p := (·.reServed)) (l := l.dropWhile (·.reServed))
    rw [List.dropWhile_idempotent] at this
    simpa using this
  unfold insertReServed
  rw [List.takeWhile_append_of_pos hfront, List.dropWhile_append_of_pos hfront, List.takeWhile_cons_of_pos hx,
    List.dropWhile_cons_of_pos hx, htake, List.dropWhile_idempotent]
  simp

/-- Grants lost one after another. -/
theorem FeederRec.GrantsApart.losing_losing (h : r.GrantsApart) (he : e ∈ r.allGrants)
    (hrest : ∀ g ∈ rest, g ∈ r.allGrants ∧ g.store ≠ e.store) : (r.losing [e]).losing rest = r.losing (e :: rest) := by
  have hgrants : (r.grants.filter fun x => x.store ≠ e.store).filter (fun x => !(rest.map (·.store)).contains x.store) =
      r.grants.filter fun x => !((e :: rest).map (·.store)).contains x.store := by
    rw [List.filter_filter]
    refine List.filter_congr fun x _ => ?_
    by_cases hx : x.store = e.store <;> simp [hx]
  cases hp : e.entry.origin.isPatch with
  | true =>
    have hnone : rest.find? (fun e => e.entry.origin.isPatch) = none := by
      refine List.find?_eq_none.2 fun g hg hgp => ?_
      obtain ⟨hmem, hne⟩ := hrest g hg
      have hge := ((h.isPatch_iff hmem).1 hgp).symm.trans ((h.isPatch_iff he).1 hp)
      exact hne (congrArg (·.store) (PatchSlot.granted.inj hge))
    rw [FeederRec.losing_patch hp]
    unfold FeederRec.losing
    dsimp only
    rw [hgrants, hnone, show (e :: rest).find? (fun e => e.entry.origin.isPatch) = some e by simp [hp],
      List.filter_cons_of_neg (by simp [hp])]
  | false =>
    rw [FeederRec.losing_call hp]
    unfold FeederRec.losing
    dsimp only
    rw [hgrants, insert_reServed _ _ rfl, show (e :: rest).find? (fun e => e.entry.origin.isPatch) =
      rest.find? (fun e => e.entry.origin.isPatch) by simp [hp], List.filter_cons_of_pos (by simp [hp])]
    rfl

end Lost

/-! ## The revocation of a bin's reservations (R164) -/

section Revoke

variable {s : State} {b : BinId} {f : Feeder}

/-- A bin record with the reservations of a list of stores cleared. -/
def BinRec.unmarked (r : BinRec) (ns : List StoreNo) : BinRec :=
  { r with stack := r.stack.map fun x => if x.store ∈ ns then { x with reserved := none } else x }

theorem BinRec.unmarked_cons (r : BinRec) (n : StoreNo) (ns : List StoreNo) :
    (r.mark n none).unmarked ns = r.unmarked (n :: ns) := by
  unfold BinRec.unmarked BinRec.mark
  dsimp only
  rw [List.map_map]
  refine congrArg (fun l => ({ r with stack := l } : BinRec)) (List.map_congr_left fun x _ => ?_)
  by_cases hx : x.store = n <;> by_cases hmem : x.store ∈ ns <;> simp [hx, hmem]

/-- The reservations of bin `b` revoked one by one (R164). -/
def State.revokeAll (s : State) (b : BinId) (f : Feeder) (ns : List StoreNo) : State :=
  ns.foldl (fun t n => t.revokeOne b f n) s

theorem State.bin_revokeOne (s : State) (b : BinId) (f : Feeder) (n : StoreNo) (c : BinId) :
    (s.revokeOne b f n).bin c = if c = b then (s.bin b).mark n none else s.bin c := by
  have hbins : (s.revokeOne b f n).bins = (s.setBin b ((s.bin b).mark n none)).bins :=
    Eq.trans (changes_send (l := []) _ _ _ .bins (by simp)) (State.setFeeder_bins _ _ _)
  rw [State.bin_congr hbins, State.bin_setBin]

theorem State.bin_revokeAll (s : State) (b : BinId) (f : Feeder) (ns : List StoreNo) (c : BinId) :
    (s.revokeAll b f ns).bin c = if c = b then (s.bin b).unmarked ns else s.bin c := by
  induction ns generalizing s with
  | nil =>
    have hself : (s.bin b).unmarked [] = s.bin b := by simp [BinRec.unmarked]
    rw [hself]
    split
    · rename_i hc
      rw [hc]
      rfl
    · rfl
  | cons n ns ih =>
    refine (ih _).trans ?_
    rw [State.bin_revokeOne, State.bin_revokeOne, if_pos rfl, BinRec.unmarked_cons]
    split <;> rfl

theorem State.roundFrame_revokeAll (s : State) (b : BinId) (f : Feeder) (ns : List StoreNo) :
    s.RoundFrame (s.revokeAll b f ns) := by
  induction ns generalizing s with
  | nil => exact .refl s
  | cons n ns ih =>
    have hmark := s.roundFrame_setBin b _ ((s.bin b).roundFrame_mark n none)
    have hlost := hmark.trans (State.roundFrame_setFeeder _ f _ (FeederRec.roundFrame_loseGrant _ n))
    exact (hlost.trans (State.roundFrame_send _ f _)).trans (ih _)

/-- Of the state, the bins, the feeders and the ports alone have changed. -/
def State.CallFrame (s t : State) : Prop := t = { s with bins := t.bins, feeders := t.feeders, ports := t.ports }

@[refl] theorem State.CallFrame.refl (s : State) : s.CallFrame s := rfl

theorem State.CallFrame.trans {s t u : State} (h : s.CallFrame t) (h' : t.CallFrame u) : s.CallFrame u := by
  refine Eq.trans (h' : u = _) ?_
  rw [(h : t = _)]

theorem callFrame_setBin (s : State) (b : BinId) (r : BinRec) : s.CallFrame (s.setBin b r) := rfl

theorem callFrame_setFeeder (s : State) (f : Feeder) (r : FeederRec) : s.CallFrame (s.setFeeder f r) := by
  cases f <;> rfl

theorem callFrame_clearClaim (s : State) (f : Feeder) : s.CallFrame (s.clearClaim f) := rfl

theorem callFrame_send (s : State) (p : Port) (o : OutcomeRec) : s.CallFrame (s.send p o) := by
  unfold State.CallFrame State.send
  split <;> rfl

theorem callFrame_raise (s : State) (p : Port) (g : Flag) : s.CallFrame (s.raise p g) := rfl

theorem callFrame_revokeOne (s : State) (b : BinId) (f : Feeder) (n : StoreNo) : s.CallFrame (s.revokeOne b f n) :=
  ((callFrame_setBin s b _).trans (callFrame_setFeeder _ f _)).trans (callFrame_send _ _ _)

theorem callFrame_revokeAll (s : State) (b : BinId) (f : Feeder) (ns : List StoreNo) :
    s.CallFrame (s.revokeAll b f ns) := by
  induction ns generalizing s with
  | nil => exact .refl s
  | cons n ns ih => exact (callFrame_revokeOne s b f n).trans (ih _)

/-- What is sent to a port depends on the ports alone. -/
theorem State.send_congr {s t : State} (h : t.ports = s.ports) (p : Port) (o : OutcomeRec) :
    (t.send p o).ports = (s.send p o).ports := by
  rw [State.send_of_ports h]

theorem State.sends_congr {s t : State} (h : t.ports = s.ports) (p : Port) (l : List OutcomeRec) :
    (l.foldl (fun u o => u.send p o) t).ports = (l.foldl (fun u o => u.send p o) s).ports := by
  induction l generalizing s t with
  | nil => exact h
  | cons o l ih => exact ih (State.send_congr h p o)

theorem State.revokeOne_fields {e : Grant} (h : (s.feeder f).GrantsApart) (he : e ∈ (s.feeder f).allGrants) :
    (s.revokeOne b f e.store).feeder f = (s.feeder f).losing [e] ∧
      (s.revokeOne b f e.store).feeder f.other = s.feeder f.other ∧
      (s.revokeOne b f e.store).ports = (s.send (.feeder f) (.grantRevoked e.store b e.entry.origin)).ports := by
  have horigin : ((s.feeder f).grantOf e.store).elim Origin.patch (·.entry.origin) = e.entry.origin := by
    rw [h.grantOf he]
    rfl
  have hlost := h.loseGrant he
  unfold State.revokeOne
  dsimp only
  rw [horigin]
  refine ⟨?_, ?_, State.send_congr (s := s) (State.setFeeder_ports (s.setBin b _) f _) _ _⟩
  · rw [State.feeder_congr (changes_send (l := []) _ _ _ .feeders (by simp)), State.feeder_setFeeder, if_pos rfl, ← hlost]
    rfl
  · rw [State.feeder_congr (changes_send (l := []) _ _ _ .feeders (by simp)), State.feeder_setFeeder,
      if_neg (by cases f <;> decide)]
    rfl

/-- The revocation of grants one after another (R164). -/
theorem State.revokeAll_fields {lost : List Grant} (h : (s.feeder f).GrantsApart)
    (hlost : ∀ e ∈ lost, e ∈ (s.feeder f).allGrants) (hnodup : (lost.map (·.store)).Nodup) :
    (s.revokeAll b f (lost.map (·.store))).feeder f = (s.feeder f).losing lost ∧
      (s.revokeAll b f (lost.map (·.store))).feeder f.other = s.feeder f.other ∧
      (s.revokeAll b f (lost.map (·.store))).ports =
        ((lost.map fun e => OutcomeRec.grantRevoked e.store b e.entry.origin).foldl
          (fun u o => u.send (.feeder f) o) s).ports := by
  induction lost generalizing s with
  | nil => exact ⟨(FeederRec.losing_nil _).symm, rfl, rfl⟩
  | cons e lost ih =>
    have he := hlost e (List.mem_cons_self ..)
    obtain ⟨hself, hother, hports⟩ := State.revokeOne_fields (b := b) h he
    rw [List.map_cons, List.nodup_cons] at hnodup
    have hrest : ∀ g ∈ lost, g ∈ (s.feeder f).allGrants ∧ g.store ≠ e.store := fun g hg =>
      ⟨hlost g (List.mem_cons_of_mem _ hg), fun hstore => hnodup.1 (List.mem_map.2 ⟨g, hg, hstore⟩)⟩
    have hmem : ∀ g ∈ lost, g ∈ ((s.revokeOne b f e.store).feeder f).allGrants := fun g hg => by
      obtain ⟨hall, hne⟩ := hrest g hg
      rw [hself, h.allGrants_losing he]
      exact List.mem_filter.2 ⟨hall, decide_eq_true hne⟩
    obtain ⟨hself', hother', hports'⟩ := ih (hself ▸ h.losing he) hmem hnodup.2
    refine ⟨?_, hother'.trans hother, hports'.trans (State.sends_congr hports _ _)⟩
    exact hself'.trans ((congrArg (fun r => r.losing lost) hself).trans (h.losing_losing he hrest))

end Revoke

end Sys2Proof.Machine
end

section
/-! A pulse on LANDb (R98 to R100, R103, R164). -/

namespace Sys2Proof.Machine

set_option Elab.async false

open Sys2Proof

/-! ## A waiting ply set aside (R161) -/

section SetAside

variable (s : State) (f : Feeder)

theorem State.bin_setAside (b : BinId) :
    (s.setAside f).bin b = { s.bin b with
      claim := if (s.feeder f).waiting ≠ none ∧ (s.bin b).claim = some f then none else (s.bin b).claim } := by
  unfold State.setAside
  cases hw : (s.feeder f).waiting with
  | none => simp
  | some w =>
    rw [if_pos Option.isSome_some, State.bin_clearClaim, State.bin_congr (State.setFeeder_bins s f _)]
    simp

theorem State.feeder_setAside_self : (s.setAside f).feeder f = { s.feeder f with waiting := none } := by
  unfold State.setAside
  cases hw : (s.feeder f).waiting with
  | none =>
    rw [if_neg (by simp), ← hw]
  | some w =>
    rw [if_pos Option.isSome_some, State.feeder_congr (State.clearClaim_feeders ..), State.feeder_setFeeder, if_pos rfl]

theorem State.feeder_setAside_ne {g : Feeder} (h : g ≠ f) : (s.setAside f).feeder g = s.feeder g := by
  unfold State.setAside
  split
  · rw [State.feeder_congr (State.clearClaim_feeders ..), State.feeder_setFeeder, if_neg h]
  · rfl

theorem State.setAside_ports : (s.setAside f).ports = s.ports := by
  unfold State.setAside
  split
  · exact (State.clearClaim_ports ..).trans (State.setFeeder_ports s f _)
  · rfl

theorem callFrame_setAside : s.CallFrame (s.setAside f) := by
  unfold State.setAside
  split
  · exact (callFrame_setFeeder s f _).trans (callFrame_clearClaim _ f)
  · exact .refl s

theorem State.roundFrame_setAside : s.RoundFrame (s.setAside f) := by
  unfold State.setAside
  split
  · refine .trans (State.roundFrame_setFeeder s f _ ?_) (State.roundFrame_clearClaim _ f)
    exact ⟨rfl, rfl, rfl⟩
  · exact .refl s

end SetAside

/-! ## The reservations revoked (R164) -/

section Revoked

variable {s : State} {b : BinId} {f : Feeder}

/-- The stores of the records that feeder `f` has reserved in bin `b`, from the top down. -/
def State.reservedStores (s : State) (b : BinId) (f : Feeder) : List StoreNo :=
  ((s.bin b).stack.reverse.filter fun x => x.reserved == some f).map (·.store)

theorem State.revokeBin_eq (s : State) (b : BinId) (f : Feeder) :
    s.revokeBin b f = ((s.revokeAll b f (s.reservedStores b f)).raise (.feeder f) .revoked).setAside f := rfl

theorem BinRec.holder_of_mem {r : BinRec} (hall : ∀ x ∈ r.stack, x.reserved = none ∨ x.reserved = some f)
    (hex : ∃ x ∈ r.stack, x.reserved = some f) : r.holder = some f := by
  cases hh : r.holder with
  | none =>
    obtain ⟨x, hx, hf⟩ := hex
    rw [BinRec.holder_eq_none hh x hx] at hf
    cases hf
  | some g =>
    obtain ⟨x, hx, hg⟩ := BinRec.holder_eq_some hh
    rcases hall x hx with hn | hf
    · rw [hn] at hg
      cases hg
    · exact hg.symm.trans hf

/-- What a revocation leaves: the gates, the tracker, the counters, every bin's record but for its claim and its marks, and
every flag but OUTCOME_LOST and REVOKED. -/
structure State.RevokeFrame (s t : State) : Prop where
  gates : t.gates = s.gates
  tracker : t.tracker = s.tracker
  counters : t.counters = s.counters
  bins : ∀ c, (s.bin c).RoundFrame (t.bin c)
  flag : ∀ (p : Port) (i : Nat), i ≠ 1 → i ≠ 4 →
    (t.port p).flags.getLsbD i = (s.port p).flags.getLsbD i ∧ (t.port p).seen.getLsbD i = (s.port p).seen.getLsbD i

theorem State.port_raise_flag (s : State) (p q : Port) {g : Flag} {i : Nat} (hi : i ≠ g.index) :
    ((s.raise p g).port q).flags.getLsbD i = (s.port q).flags.getLsbD i ∧
      ((s.raise p g).port q).seen.getLsbD i = (s.port q).seen.getLsbD i := by
  by_cases hq : q = p
  · rw [hq, State.port_raise_self, PortRec.getLsbD_raise_flags, PortRec.getLsbD_raise_seen]
    simp [hi]
  · unfold State.raise
    rw [State.port_setPort_ne _ hq]
    exact ⟨rfl, rfl⟩

theorem revokeFrame_revokeBin (s : State) (b : BinId) (f : Feeder) : s.RevokeFrame (s.revokeBin b f) := by
  have hmarks := s.roundFrame_revokeAll b f (s.reservedStores b f)
  have haside := ((s.revokeAll b f (s.reservedStores b f)).raise (.feeder f) .revoked).roundFrame_setAside f
  rw [← s.revokeBin_eq b f] at haside
  refine ⟨haside.gates.trans hmarks.gates, haside.tracker.trans hmarks.tracker, haside.counters.trans hmarks.counters,
    fun c => (hmarks.bins c).trans (haside.bins c), fun p i h1 h4 => ?_⟩
  obtain ⟨hflag, hseen⟩ := hmarks.flag p h1
  obtain ⟨hflag', hseen'⟩ := haside.flag p h1
  obtain ⟨hraise, hraiseSeen⟩ := (s.revokeAll b f (s.reservedStores b f)).port_raise_flag (.feeder f) p (g := .revoked) h4
  exact ⟨hflag'.trans (hraise.trans hflag), hseen'.trans (hraiseSeen.trans hseen)⟩

theorem revokeFrame_revokeReservations (s : State) (b : BinId) : s.RevokeFrame (s.revokeReservations b) := by
  unfold State.revokeReservations
  split
  · exact revokeFrame_revokeBin s b _
  · exact ⟨rfl, rfl, rfl, fun _ => .refl _, fun _ _ _ _ => ⟨rfl, rfl⟩⟩

/-- The bins after a revocation: the marks of the bin cleared, and the claim of the wait set aside. -/
theorem State.bin_revokeBin (s : State) (b : BinId) (f : Feeder) (c : BinId) :
    ∃ r : BinRec, r = (if c = b then (s.bin b).unmarked (s.reservedStores b f) else s.bin c) ∧
      (s.revokeBin b f).bin c =
        { r with claim := if ((s.revokeAll b f (s.reservedStores b f)).feeder f).waiting ≠ none ∧ r.claim = some f then none
                  else r.claim } := by
  refine ⟨_, rfl, ?_⟩
  rw [s.revokeBin_eq, State.bin_setAside, State.bin_congr (State.raise_bins ..), State.bin_revokeAll,
    State.feeder_congr (State.raise_feeders ..)]

/-- With one holder every mark of the bin is cleared. -/
theorem BinRec.unmarked_reserved {r : BinRec} {ns : List StoreNo}
    (h : ∀ x ∈ r.stack, x.reserved ≠ none → x.store ∈ ns) : ∀ x ∈ (r.unmarked ns).stack, x.reserved = none := by
  intro x hx
  obtain ⟨y, hy, rfl⟩ := List.mem_map.1 hx
  split
  · rfl
  · rename_i hns
    exact not_not.1 fun hne => hns (h y hy hne)

theorem State.mem_reservedStores {x : Sheet} (hx : x ∈ (s.bin b).stack) (hf : x.reserved = some f) :
    x.store ∈ s.reservedStores b f :=
  List.mem_map.2 ⟨x, List.mem_filter.2 ⟨List.mem_reverse.2 hx, by rw [hf]; exact beq_self_eq_true _⟩, rfl⟩

theorem State.reserved_revokeReservations
    (hone : ∀ x ∈ (s.bin b).stack, ∀ y ∈ (s.bin b).stack, ∀ g h, x.reserved = some g → y.reserved = some h → g = h) :
    ∀ x ∈ ((s.revokeReservations b).bin b).stack, x.reserved = none := by
  unfold State.revokeReservations
  split
  · rename_i f hholder
    obtain ⟨y, hy, hyf⟩ := BinRec.holder_eq_some hholder
    obtain ⟨r, hr, hbin⟩ := s.bin_revokeBin b f b
    rw [if_pos rfl] at hr
    rw [hbin, hr]
    refine BinRec.unmarked_reserved fun x hx hne => ?_
    obtain ⟨g, hg⟩ := Option.ne_none_iff_exists'.1 hne
    exact State.mem_reservedStores hx (hg.trans (congrArg some (hone x hx y hy g f hg hyf)))
  · rename_i hnone
    exact BinRec.holder_eq_none hnone

theorem State.revoked_flag (h : (s.bin b).holder = some f) :
    ((s.revokeReservations b).port (.feeder f)).flags.getLsbD 4 = true := by
  unfold State.revokeReservations
  rw [h]
  dsimp only
  rw [s.revokeBin_eq, State.port_congr (State.setAside_ports ..), State.port_raise_self, PortRec.getLsbD_raise_flags]
  rfl

end Revoked

/-! ## The pulse -/

section Pulse

variable {s : State} {b : BinId}

theorem State.landPulse_ignored (h : (s.bin b).state = .off ∨ (s.bin b).state = .lockout) : s.landPulse b = s := by
  unfold State.landPulse
  rcases h with h | h <;> rw [h]

theorem State.landPulse_landed {x : InFlight} {rest : List InFlight}
    (h : (s.bin b).state = .service ∨ (s.bin b).state = .drain ∨ (s.bin b).state = .check)
    (hin : (s.bin b).inFlight = x :: rest) : s.landPulse b = (s.land b x rest).searchRound := by
  unfold State.landPulse
  rcases h with h | h | h <;> rw [h, hin]

theorem State.landPulse_stray (h : (s.bin b).state = .service ∨ (s.bin b).state = .drain)
    (hin : (s.bin b).inFlight = []) : s.landPulse b = s.countStray.strayLanding b := by
  unfold State.landPulse
  rcases h with h | h <;> rw [h, hin]

theorem State.landPulse_check (h : (s.bin b).state = .check) (hin : (s.bin b).inFlight = []) :
    s.landPulse b =
      (s.failed b .strayLandings (bit (s.bin b).questioned.isSome) .strayLanding).searchRound := by
  have hcount : bit (s.bin b).questioned.isSome + (s.bin b).inFlight.length = bit (s.bin b).questioned.isSome := by
    rw [hin]
    rfl
  unfold State.landPulse
  rw [h, hin, ← hcount]
  rfl

/-- The state a stray landing hands to its search round (R100). -/
def State.strayed (s : State) (b : BinId) : State := (s.countStray.revokeReservations b).strayCheck b

/-- The search round of a stray landing: taken first by the feeder whose grants were revoked (R153, R164). -/
def State.strayRound (s : State) (b : BinId) : State :=
  match (s.bin b).holder with
  | some f => (s.strayed b).searchRoundBy f
  | none => (s.strayed b).searchRound

theorem State.strayRound_spec (s : State) (b : BinId) :
    (s.strayed b).RoundFrame (s.strayRound b) ∧ State.RestKept b (s.strayed b) (s.strayRound b) := by
  unfold State.strayRound
  split
  · exact ⟨State.roundFrame_searchRoundBy _ _, restKept_searchRoundBy _ _⟩
  · exact ⟨State.roundFrame_searchRound _, restKept_searchRound _⟩

theorem State.strayLanding_eq (s : State) (b : BinId) : s.countStray.strayLanding b = s.strayRound b := by
  unfold State.strayLanding State.strayRound
  rfl

theorem State.revokeFrame_countStray (s : State) (b : BinId) :
    s.countStray.RevokeFrame (s.countStray.revokeReservations b) := revokeFrame_revokeReservations _ b

theorem State.cancelGate_gates (t : State) (b : BinId) :
    (t.cancelGate b).gates = t.gates.set b (t.gate b).cancelled := rfl

theorem State.cancelGate_tracker (t : State) (b : BinId) :
    (t.cancelGate b).tracker = { t.tracker with queue := t.tracker.queue.map fun r =>
      if r.store ∈ (t.gate b).unopened then { r with disp := .runout .cancelled } else r } := rfl

/-- The bin in CHECK by a stray landing (R100). -/
theorem State.bin_strayed (s : State) (b : BinId) :
    ∃ c, (s.strayed b).bin b = { (s.countStray.revokeReservations b).bin b with
      state := .check, resume := (s.bin b).state.resume, stray := true, current := c } := by
  have hstate : ((s.countStray.revokeReservations b).bin b).state = (s.bin b).state :=
    State.bin_state_revokeReservations s.countStray b b
  refine ⟨((s.strayed b).bin b).current, ?_⟩
  unfold State.strayed State.strayCheck
  dsimp only
  rw [State.bin_floatRelease_self, State.bin_congr (State.cancelGate_bins _ b), State.bin_setBin_self, hstate]
  exact BinRec.floatRelease_eq _ _

theorem State.doubtFrame_strayed (s : State) (b : BinId) : s.DoubtFrame b .strayLanding (s.strayed b) := by
  have h := s.revokeFrame_countStray b
  have hgate : (s.countStray.revokeReservations b).gate b = s.gate b := State.gate_congr h.gates b
  refine State.DoubtFrame.floatRelease ⟨fun c hc => ?_, ?_, ?_, fun p => ?_⟩
  · rw [State.bin_congr (State.cancelGate_bins _ b), State.bin_setBin_ne _ hc]
    exact h.bins c
  · rw [State.cancelGate_gates, State.cancelGate_gates]
    exact congrArg₂ (fun (v : Vector Gate 16) g => v.set b g) h.gates (congrArg Gate.cancelled hgate)
  · rw [State.cancelGate_tracker, State.cancelGate_tracker, State.setBin_tracker, State.gate_congr (State.setBin_gates _ b _),
      hgate, h.tracker]
    rfl
  · obtain ⟨hflag, hseen⟩ := h.flag p 11 (by decide) (by decide)
    obtain ⟨hset, hunseen⟩ := State.port_raiseAll_flag (s.bump .strayLandings) .strayLanding p
    exact ⟨hflag.trans hset, hseen.trans hunseen⟩

end Pulse

end Sys2Proof.Machine
end

section
/-! LAND PULSE by the bin's state, and the grants a stray landing revokes (R98 to R100, R103, R164). -/

namespace Sys2Proof.Machine

set_option Elab.async false

open Sys2Proof

section Landing

variable {s : State} {b : BinId} {x : InFlight} {rest : List InFlight}

theorem exec_landPulse {t : State} (h : s.landPulse b = t) : exec (.landPulse b) s = .next (t.takeConditions s) :=
  congrArg (fun v : State => Host.Outcome.next (v.takeConditions s)) h

/-- The state a landing hands to its search round (R98). -/
theorem noneRisen_land (s : State) (b : BinId) (x : InFlight) (rest : List InFlight) : s.NoneRisen (s.land b x rest) := by
  refine .trans ?_ (noneRisen_bumpBy _ .landed 1)
  exact noneRisen_setBin id id

theorem strayLanding_apart : Flag.strayLanding.Apart := by
  unfold Flag.Apart
  decide

theorem resume_of_working (h : (s.bin b).state = .service ∨ (s.bin b).state = .drain) :
    (s.bin b).state.resume = if (s.bin b).state = .service then some .service else some .drain := by
  rcases h with h | h <;> rw [h] <;> rfl

/-- BIN_CHECK after a stray landing: the condition is true, and its flag is set unless it was true before (R104, R203). -/
theorem State.flag_binCheck_strayed (s : State) (b : BinId) (p : Port) :
    (((s.strayRound b).takeConditions s).port p).flags.getLsbD 13 =
      (!s.binCheck || (s.port p).flags.getLsbD 13) := by
  obtain ⟨hround, -⟩ := s.strayRound_spec b
  obtain ⟨c, hbin⟩ := s.bin_strayed b
  have hcheck : (s.strayRound b).binCheck = true := by
    refine hround.conditions.2.1.trans ((s.strayed b).binCheck_iff.2 ⟨b, ?_⟩)
    rw [hbin]
  obtain ⟨flags, seen, hport, hbits⟩ := (s.strayRound b).takeConditions_port_bits s p
  obtain ⟨hflag, -⟩ := hbits 13 (!s.binCheck) (by simp [hcheck])
  have hrevoked := ((s.revokeFrame_countStray b).flag p 13 (by decide) (by decide)).1
  have hraised : (s.countStray.port p).flags.getLsbD 13 = (s.port p).flags.getLsbD 13 := by
    rw [State.countStray, State.port_raiseAll, PortRec.getLsbD_raise_flags]
    rfl
  rw [hport]
  exact hflag.trans (congrArg _ ((hround.flag p (by decide)).1.trans (hrevoked.trans hraised)))

theorem State.flag_revoked_strayed {g : Feeder} (h : (s.bin b).holder = some g) :
    (((s.strayRound b).takeConditions s).port (.feeder g)).flags.getLsbD 4 = true := by
  obtain ⟨hround, -⟩ := s.strayRound_spec b
  obtain ⟨hflag, -⟩ := (s.strayRound b).port_takeConditions_flag s (.feeder g) (i := 4) (by decide) (by decide) (by decide)
  have hrevoked : ((s.strayed b).port (.feeder g)).flags.getLsbD 4 = true := State.revoked_flag (s := s.countStray) h
  exact hflag.trans ((hround.flag (.feeder g) (by decide)).1.trans hrevoked)

/-- With no reservation to revoke, the stray landing changes the bin's record alone. -/
theorem State.strayRound_unreserved (hs : (s.bin b).state = .service ∨ (s.bin b).state = .drain)
    (h : ∀ x ∈ (s.bin b).stack, x.reserved = none) :
    ∃ u : State, s.strayRound b = u.searchRound ∧
      u = ((((s.cancelGate b).bump .strayLandings).raiseAll .strayLanding).setBin b { s.bin b with
        state := .check, stray := true
        resume := if (s.bin b).state = .service then some .service else some .drain }).floatRelease b := by
  have hholder : (s.bin b).holder = none := by simpa [BinRec.holder, List.findSome?_eq_none_iff] using h
  have hrevoked : s.countStray.revokeReservations b = s.countStray := by
    have hcounted : (s.countStray.bin b).holder = none := hholder
    unfold State.revokeReservations
    rw [hcounted]
  refine ⟨_, ?_, rfl⟩
  unfold State.strayRound State.strayed
  rw [hholder, hrevoked, ← resume_of_working hs]
  rfl

end Landing

/-! ## The grants a stray landing revokes (R164) -/

section Grants

variable {s : State} {b : BinId} {g : Feeder} {revoked : List Grant}

theorem FeederRec.CallSound.grantsApart {r : FeederRec} (h : r.CallSound) (hnodup : (r.allGrants.map (·.store)).Nodup) :
    r.GrantsApart := by
  obtain ⟨-, -, -, -, hcall, hpatch, -⟩ := h
  refine ⟨hnodup, hcall, fun e he => ?_⟩
  rw [he] at hpatch
  exact hpatch

theorem callFrame_revokeBin (s : State) (b : BinId) (f : Feeder) : s.CallFrame (s.revokeBin b f) :=
  ((callFrame_revokeAll s b f _).trans (callFrame_raise _ _ _)).trans (callFrame_setAside _ f)

theorem State.raise_congr {s t : State} (h : t.ports = s.ports) (p : Port) (g : Flag) :
    (t.raise p g).ports = (s.raise p g).ports := by
  have hport := State.port_congr h p
  unfold State.raise State.setPort
  rcases p with _ | _ | _
  all_goals
    dsimp only
    rw [h, hport]

/-- The feeder, the bins and the ports after the revocation of the grants `revoked` (R164). -/
theorem State.revokeBin_fields (hstores : s.reservedStores b g = revoked.map (·.store)) (h : (s.feeder g).GrantsApart)
    (hmem : ∀ e ∈ revoked, e ∈ (s.feeder g).allGrants) (hnodup : (revoked.map (·.store)).Nodup) :
    (s.revokeBin b g).feeder g = { (s.feeder g).losing revoked with waiting := none } ∧
      (s.revokeBin b g).feeder g.other = s.feeder g.other ∧
      (∀ c, (s.revokeBin b g).bin c =
        { (if c = b then (s.bin b).unmarked (revoked.map (·.store)) else s.bin c) with
          claim := if (s.feeder g).waiting ≠ none ∧ (s.bin c).claim = some g then none else (s.bin c).claim }) ∧
      (s.revokeBin b g).ports =
        (((revoked.map fun e => OutcomeRec.grantRevoked e.store b e.entry.origin).foldl
          (fun u o => u.send (.feeder g) o) s).raise (.feeder g) .revoked).ports := by
  obtain ⟨hself, hother, hports⟩ := State.revokeAll_fields (b := b) h hmem hnodup
  rw [← hstores] at hself hother hports
  refine ⟨?_, ?_, fun c => ?_, ?_⟩
  · rw [s.revokeBin_eq, State.feeder_setAside_self, State.feeder_congr (State.raise_feeders ..), hself]
  · rw [s.revokeBin_eq, State.feeder_setAside_ne _ _ (by cases g <;> decide), State.feeder_congr (State.raise_feeders ..),
      hother]
  · obtain ⟨r, hr, hbin⟩ := s.bin_revokeBin b g c
    have hclaim : r.claim = (s.bin c).claim := by
      rw [hr]
      split
      · rename_i hc
        rw [hc]
        rfl
      · rfl
    rw [hbin, hself, hclaim, hr, hstores]
    rfl
  · rw [s.revokeBin_eq, State.setAside_ports]
    exact State.raise_congr hports _ _

/-- The marks of one holder cleared are all marks cleared. -/
theorem BinRec.unmarked_all {r : BinRec} {ns : List StoreNo} (h : ∀ x ∈ r.stack, x.reserved = none ∨ x.store ∈ ns) :
    r.unmarked ns = { r with stack := r.stack.map fun x => { x with reserved := none } } := by
  refine congrArg (fun l => ({ r with stack := l } : BinRec)) (List.map_congr_left fun x hx => ?_)
  split
  · rfl
  · rename_i hns
    have hnone := (h x hx).resolve_right hns
    exact congrArg (fun o => ({ x with reserved := o } : Sheet)) hnone

/-- A stray landing on a bin with a record in its stack: FLOAT release finds it. -/
theorem State.strayed_of_stack {r : BinRec} (hr : (s.countStray.revokeReservations b).bin b = r) (hstack : r.stack ≠ []) :
    s.strayed b = ((s.countStray.revokeReservations b).setBin b
      { r with state := .check, resume := (s.bin b).state.resume, stray := true }).cancelGate b := by
  have hstate : r.state = (s.bin b).state := hr ▸ State.bin_state_revokeReservations s.countStray b b
  unfold State.strayed State.strayCheck
  dsimp only
  rw [hr, hstate, State.floatRelease]
  refine Eq.trans (congrArg _ (if_neg fun hempty => hstack ?_)) (State.setBin_self _ b)
  rw [State.bin_congr (State.cancelGate_bins _ b), State.bin_setBin_self] at hempty
  exact hempty.2.1

theorem State.CallFrame.with_gates {t u : State} (h : t.CallFrame u) (x : Tracker) (y : Vector Gate 16)
    (z : Vector BinRec 16) :
    ({ u with tracker := x, gates := y, bins := z } : State) =
      { t with tracker := x, gates := y, bins := z, feeders := u.feeders, ports := u.ports } :=
  congrArg (fun v : State => ({ v with tracker := x, gates := y, bins := z } : State)) h

theorem State.strayCheck_eq (t : State) (b : BinId) :
    t.strayCheck b =
      { t with
        tracker := (t.strayCheck b).tracker, gates := (t.strayCheck b).gates, bins := (t.strayCheck b).bins } := rfl

theorem State.countStray_with (s : State) (x : Tracker) (y : Vector Gate 16) (z : Vector BinRec 16) (fs : Feeders)
    (ps : Ports) :
    ({ s.countStray with tracker := x, gates := y, bins := z, feeders := fs, ports := ps } : State) =
      { s with
        tracker := x, gates := y, bins := z, feeders := fs, ports := ps, counters := (s.bump .strayLandings).counters } := rfl

/-- What a stray landing leaves outside the tracker, the gates, the bins, the feeders, the ports and the counters. -/
theorem State.strayed_eq (h : (s.bin b).holder = some g) :
    s.strayed b = { s with
      tracker := (s.strayed b).tracker, gates := (s.strayed b).gates, bins := (s.strayed b).bins
      feeders := (s.strayed b).feeders, ports := (s.strayed b).ports, counters := (s.bump .strayLandings).counters } := by
  have hrevoked : s.countStray.revokeReservations b = s.countStray.revokeBin b g := by
    have hcounted : (s.countStray.bin b).holder = some g := h
    unfold State.revokeReservations
    rw [hcounted]
  have hframe := callFrame_revokeBin s.countStray b g
  rw [← hrevoked] at hframe
  unfold State.strayed
  generalize s.countStray.revokeReservations b = R at hframe
  exact (R.strayCheck_eq b).trans ((hframe.with_gates _ _ _).trans (s.countStray_with _ _ _ _ _))

theorem State.of_mem_reservedStores {n : StoreNo} (h : n ∈ s.reservedStores b g) :
    ∃ x ∈ (s.bin b).stack, x.reserved = some g := by
  obtain ⟨x, hx, -⟩ := List.mem_map.1 h
  obtain ⟨hmem, hg⟩ := List.mem_filter.1 hx
  exact ⟨x, List.mem_reverse.1 hmem, by simpa using hg⟩

/-- The records of revoked grants, in a queue with room for them, behind the flag of the stray landing. -/
theorem State.ports_revoked (hroom : (s.port (.feeder g)).outcomes.length + revoked.length ≤ 8) :
    (((revoked.map fun e => OutcomeRec.grantRevoked e.store b e.entry.origin).foldl
        (fun u o => u.send (.feeder g) o) s.countStray).raise (.feeder g) .revoked).ports =
      (((s.raiseAll .strayLanding).setPort (.feeder g) { (s.raiseAll .strayLanding).port (.feeder g) with
        outcomes := (s.port (.feeder g)).outcomes ++
          revoked.map fun e => .grantRevoked e.store b e.entry.origin }).raise (.feeder g) .revoked).ports := by
  have houtcomes : ((s.raiseAll .strayLanding).port (.feeder g)).outcomes = (s.port (.feeder g)).outcomes := by
    rw [State.port_raiseAll]
    rfl
  refine State.raise_congr ?_ _ _
  rw [State.sends_congr (s := s.raiseAll .strayLanding) (t := s.countStray) rfl, State.sends_room _ (by rw [houtcomes, List.length_map]; exact hroom),
    houtcomes]

/-- The grants a stray landing revokes, with what it does to the bins and the ports before its round (R100, R164). -/
theorem State.strayed_fields (hall : ∀ x ∈ (s.bin b).stack, x.reserved = none ∨ x.reserved = some g)
    (hne : revoked ≠ []) (hstores : s.reservedStores b g = revoked.map (·.store)) (h : (s.feeder g).GrantsApart)
    (hmem : ∀ e ∈ revoked, e ∈ (s.feeder g).allGrants) (hnodup : (revoked.map (·.store)).Nodup) :
    (s.bin b).holder = some g ∧
      (s.strayed b).feeder g = { (s.feeder g).losing revoked with waiting := none } ∧
      (s.strayed b).feeder g.other = s.feeder g.other ∧
      (s.strayed b).bin b = { s.bin b with
        state := .check, stray := true, resume := (s.bin b).state.resume
        stack := (s.bin b).stack.map fun x => { x with reserved := none }
        claim := if (s.feeder g).waiting ≠ none ∧ (s.bin b).claim = some g then none else (s.bin b).claim } ∧
      (∀ c, c ≠ b → (s.strayed b).bin c = { s.bin c with
        claim := if (s.feeder g).waiting ≠ none ∧ (s.bin c).claim = some g then none else (s.bin c).claim }) ∧
      (s.strayed b).ports = (((revoked.map fun e => OutcomeRec.grantRevoked e.store b e.entry.origin).foldl
        (fun u o => u.send (.feeder g) o) s.countStray).raise (.feeder g) .revoked).ports := by
  obtain ⟨e, he⟩ := List.exists_mem_of_ne_nil _ hne
  obtain ⟨y, hy, hyg⟩ := State.of_mem_reservedStores (hstores.symm ▸ List.mem_map.2 ⟨e, he, rfl⟩)
  have hholder : (s.bin b).holder = some g := BinRec.holder_of_mem hall ⟨y, hy, hyg⟩
  have hrevoked : s.countStray.revokeReservations b = s.countStray.revokeBin b g := by
    have hcounted : (s.countStray.bin b).holder = some g := hholder
    unfold State.revokeReservations
    rw [hcounted]
  obtain ⟨hself, hother, hbins, hports⟩ := State.revokeBin_fields (s := s.countStray) (b := b) hstores h hmem hnodup
  have hunmarked : (s.bin b).unmarked (revoked.map (·.store)) =
      { s.bin b with stack := (s.bin b).stack.map fun x => { x with reserved := none } } := by
    refine BinRec.unmarked_all fun x hx => (hall x hx).imp_right fun hxg => ?_
    rw [← hstores]
    exact State.mem_reservedStores hx hxg
  have hbin := hbins b
  rw [if_pos rfl, show s.countStray.bin b = s.bin b from rfl, hunmarked, ← hrevoked] at hbin
  have hstrayed := State.strayed_of_stack hbin (by simpa using List.ne_nil_of_mem hy)
  refine ⟨hholder, ?_, ?_, ?_, fun c hc => ?_, ?_⟩
  · rw [hstrayed, State.feeder_congr (State.cancelGate_feeders _ b), State.feeder_congr (State.setBin_feeders _ b _), hrevoked]
    exact hself
  · rw [hstrayed, State.feeder_congr (State.cancelGate_feeders _ b), State.feeder_congr (State.setBin_feeders _ b _), hrevoked]
    exact hother
  · rw [hstrayed, State.bin_congr (State.cancelGate_bins _ b), State.bin_setBin_self]
    rfl
  · rw [hstrayed, State.bin_congr (State.cancelGate_bins _ b), State.bin_setBin_ne _ hc, hrevoked, hbins c, if_neg hc]
    rfl
  · rw [hstrayed, State.cancelGate_ports, State.setBin_ports, hrevoked]
    exact hports

end Grants

/-- Settles O35: the pulse by the bin's state and its in-flight list. -/
theorem landingPulse : Obligations.LandingPulse := by
  refine fun s b => ⟨fun hs => ?_, fun x rest hs hin => ?_, fun hs hin hone => ?_,
    fun g revoked hs hin hall hne hstores hnodup hmem hapart hsound hroom => ?_, fun hs hin => ?_⟩
  · exact (exec_landPulse (State.landPulse_ignored hs)).trans (congrArg _ (State.NoneRisen.refl s).takeConditions)
  · exact ⟨_, _, (exec_landPulse (State.landPulse_landed hs hin)).trans
      (congrArg _ (noneRisen_land s b x rest).searchRound), rfl, State.roundFrame_searchRound _, rfl⟩
  · obtain ⟨hround, hrest⟩ := s.strayRound_spec b
    have hframe := (s.doubtFrame_strayed b).after strayLanding_apart hround s
    have hrevoked := s.revokeFrame_countStray b
    obtain ⟨c, hstrayed⟩ := s.bin_strayed b
    obtain ⟨hstate, hquestioned, hinFlight, hresume, hstray, -, hstack⟩ := (State.bin_afterRound hround s b).fields
    obtain ⟨-, hquestioned', hinFlight', -, -, -, hstack'⟩ := (hrevoked.bins b).fields
    rw [hstrayed] at hstate hquestioned hinFlight hresume hstray hstack
    refine ⟨_, exec_landPulse ((State.landPulse_stray hs hin).trans (s.strayLanding_eq b)), hstate, hstray,
      hresume.trans (resume_of_working hs), hinFlight.trans (hinFlight'.trans hin), hquestioned.trans hquestioned',
      hstack.trans hstack', fun x hx => ?_, congrArg Gate.lead hframe.gate.1, congrArg Gate.follow hframe.gate.1,
      hframe.tracker, (State.counters_afterRound hround s).trans hrevoked.counters,
      fun p => ⟨(hframe.flag p).1, (hframe.flag p).2, s.flag_binCheck_strayed b p⟩, fun g => State.flag_revoked_strayed,
      fun b' hb => ⟨hframe.others b' hb, hframe.gate.2 b' hb⟩, fun hnone => ?_⟩
    · rw [State.bin_takeConditions, hrest.stack (by rw [hstrayed]; rfl), hstrayed] at hx
      exact State.reserved_revokeReservations (s := s.countStray) hone x hx
    · obtain ⟨u, hu, heq⟩ := State.strayRound_unreserved hs hnone
      exact ⟨u, congrArg (fun v : State => v.takeConditions s) hu, heq⟩
  · obtain ⟨hholder, hself, hother, hbin, hbins, hports⟩ :=
      State.strayed_fields (s := s) hall hne hstores.symm (hsound.grantsApart hapart) hmem hnodup
    have hstray : s.strayRound b = (s.strayed b).searchRoundBy g := by
      unfold State.strayRound
      rw [hholder]
    have hround := (s.strayed b).roundFrame_searchRoundBy g
    have heq := State.strayed_eq hholder
    have hcounters : (s.strayed b).counters = (s.bump .strayLandings).counters := by rw [heq]
    refine ⟨_, s.strayed b, s.raiseAll .strayLanding,
      exec_landPulse ((State.landPulse_stray hs hin).trans (s.strayLanding_eq b)),
      congrArg (fun v : State => v.takeConditions s) hstray, ?_, hself, hother, ?_, hbins, rfl,
      hports.trans (State.ports_revoked hroom)⟩
    · rw [hstray, congrArg State.tracker (State.takeConditions_eq _ s), congrArg State.gates (State.takeConditions_eq _ s),
        State.counters_afterRound hround s, hcounters]
      refine heq.trans (congrArg₂ (fun x y => ({ s with
        tracker := x, gates := y, bins := (s.strayed b).bins, feeders := (s.strayed b).feeders
        ports := (s.strayed b).ports, counters := (s.bump .strayLandings).counters } : State)) hround.tracker.symm
        hround.gates.symm)
    · rw [hbin, resume_of_working hs]
  · have hround := (s.failed b .strayLandings (bit (s.bin b).questioned.isSome) .strayLanding).roundFrame_searchRound
    have hframe := (s.doubtFrame_failed b .strayLandings (bit (s.bin b).questioned.isSome) .strayLanding).after
      strayLanding_apart hround s
    have hcounters := State.counters_afterRound hround s
    refine ⟨_, exec_landPulse (State.landPulse_check hs hin), ?_⟩
    rw [State.bin_failed, hframe.gate.1]
    exact ⟨rfl, rfl, rfl, rfl, rfl, rfl, rfl, rfl, rfl, rfl, hframe.tracker, hframe.others,
      hcounters.trans (State.counters_failed s b _ _ _), hframe.flag, _, rfl, rfl⟩

end Sys2Proof.Machine
end

section
/-! Ply specs and recipes in a payload, RECIPE LOAD and FEEDER SETUP (R124 to R127, R134, R135). -/

namespace Sys2Proof.Machine

set_option Elab.async false

open Sys2Proof

/-! ## The ply spec of six bytes (R125, R126) -/

section Specs

variable {c c0 c1 c2 : Nat} {l : List Byte} {i : Nat}

theorem plyClass_eq_none : plyClass c = none ↔ 5 < c := by
  unfold plyClass
  by_cases hc : c ≤ 5
  · interval_cases c <;> decide
  · simp [hc]
    omega

theorem plyClass_eq_some {x : GradeClass} (h : plyClass c = some x) : c ≤ 5 ∧ x.code = c := by
  have hc : c ≤ 5 := by
    rw [← Nat.not_lt, ← plyClass_eq_none, h]
    exact nofun
  refine ⟨hc, ?_⟩
  revert h
  interval_cases c <;> (rintro ⟨⟩; rfl)

/-- The codes of two class bytes are equal when their classes are. -/
theorem plyClass_inj {x y : GradeClass} (hx : plyClass c0 = some x) (hy : plyClass c1 = some y) : x = y ↔ c0 = c1 := by
  refine ⟨fun h => ?_, fun h => ?_⟩
  · rw [← (plyClass_eq_some hx).2, ← (plyClass_eq_some hy).2, h]
  · rw [h, hy] at hx
    exact (Option.some.inj hx).symm

/-- When the class bytes of a ply are refused (R126). -/
theorem plyClasses_eq_none :
    plyClasses c0 c1 c2 = none ↔
      5 < c0 ∨ 5 < c1 ∧ ¬(c1 = 0xFF ∧ c2 = 0xFF) ∨
        c1 ≤ 5 ∧ (c0 = c1 ∨ 5 < c2 ∧ c2 ≠ 0xFF ∨ c2 ≤ 5 ∧ (c2 = c0 ∨ c2 = c1)) := by
  unfold plyClasses
  cases h0 : plyClass c0 with
  | none => simp [plyClass_eq_none.1 h0]
  | some x =>
    obtain ⟨hc0, -⟩ := plyClass_eq_some h0
    cases h1 : plyClass c1 with
    | none =>
      have hc1 := plyClass_eq_none.1 h1
      simp only [ite_eq_right_iff, reduceCtorEq, imp_false]
      omega
    | some y =>
      obtain ⟨hc1, -⟩ := plyClass_eq_some h1
      have hxy := plyClass_inj h0 h1
      cases h2 : plyClass c2 with
      | none =>
        have hc2 := plyClass_eq_none.1 h2
        simp only [hxy]
        grind
      | some z =>
        obtain ⟨hc2, -⟩ := plyClass_eq_some h2
        have hzx := plyClass_inj h2 h0
        have hzy := plyClass_inj h2 h1
        simp only [hxy, hzx, hzy]
        grind

/-- The class list gives its three bytes back (R125). -/
theorem plyClasses_bytes {cs : List GradeClass} (h : plyClasses c0 c1 c2 = some cs) :
    cs[0]?.elim 0xFF GradeClass.code = c0 ∧ cs[1]?.elim 0xFF GradeClass.code = c1 ∧
      cs[2]?.elim 0xFF GradeClass.code = c2 := by
  unfold plyClasses at h
  split at h
  · cases h
  · rename_i x h0
    have hc0 := (plyClass_eq_some h0).2
    split at h
    · split at h
      · rename_i hnone
        cases h
        exact ⟨hc0, hnone.1.symm, hnone.2.symm⟩
      · cases h
    · rename_i y h1
      have hc1 := (plyClass_eq_some h1).2
      split at h
      · cases h
      · split at h
        · split at h
          · rename_i hnone
            cases h
            exact ⟨hc0, hc1, hnone.symm⟩
          · cases h
        · rename_i z h2
          split at h
          · cases h
          · cases h
            exact ⟨hc0, hc1, (plyClass_eq_some h2).2⟩

theorem plyWidth_eq_none : plyWidth c = none ↔ 3 < c := by
  rcases Nat.lt_or_ge 3 c with hc | hc
  · obtain ⟨k, rfl⟩ : ∃ k, c = k + 4 := ⟨c - 4, by omega⟩
    exact ⟨fun _ => hc, fun _ => rfl⟩
  · interval_cases c <;> decide

theorem plyWidth_byte {w : Option WidthClass} (h : plyWidth c = some w) : w.elim 3 WidthClass.code = c := by
  have hc : c ≤ 3 := by
    rw [← Nat.not_lt, ← plyWidth_eq_none, h]
    exact nofun
  revert h
  interval_cases c <;> (rintro ⟨⟩; rfl)

theorem plySpecAt_eq_none_iff :
    plySpecAt l i = none ↔
      plyClasses (byteAt l i) (byteAt l (i + 1)) (byteAt l (i + 2)) = none ∨ plyWidth (byteAt l (i + 3)) = none ∨
        nat16At l (i + 4) = 0 := by
  unfold plySpecAt
  cases plyClasses (byteAt l i) (byteAt l (i + 1)) (byteAt l (i + 2)) with
  | none => simp
  | some cs =>
    cases plyWidth (byteAt l (i + 3)) with
    | none => simp
    | some w => simp

theorem plySpecAt_eq_some {sp : PlySpec} (h : plySpecAt l i = some sp) :
    ∃ cs w, plyClasses (byteAt l i) (byteAt l (i + 1)) (byteAt l (i + 2)) = some cs ∧
      plyWidth (byteAt l (i + 3)) = some w ∧ sp = ⟨cs, w, BitVec.ofNat 16 (nat16At l (i + 4))⟩ := by
  unfold plySpecAt at h
  split at h
  · rename_i cs w hcs hw
    split at h
    · cases h
    · cases h
      exact ⟨cs, w, hcs, hw, rfl⟩
  · cases h

/-- When the six bytes of a ply spec are refused, byte by byte (R126). -/
theorem plySpecAt_refused :
    plySpecAt l i = none ↔
      byteAt l i = 0xFF ∨ byteAt l (i + 1) = 0xFF ∧ byteAt l (i + 2) ≠ 0xFF ∨
        (∃ j < 3, 5 < byteAt l (i + j) ∧ byteAt l (i + j) ≠ 0xFF) ∨
        byteAt l i = byteAt l (i + 1) ∨ byteAt l i = byteAt l (i + 2) ∨
        (byteAt l (i + 1) = byteAt l (i + 2) ∧ byteAt l (i + 1) ≠ 0xFF) ∨ 3 < byteAt l (i + 3) ∨
        nat16At l (i + 4) = 0 := by
  have hany (q : Nat → Prop) : (∃ j < 3, q (i + j)) ↔ q i ∨ q (i + 1) ∨ q (i + 2) := by
    refine ⟨fun ⟨j, hj, hq⟩ => ?_, fun h => ?_⟩
    · interval_cases j
      · exact .inl hq
      · exact .inr (.inl hq)
      · exact .inr (.inr hq)
    · rcases h with h | h | h
      · exact ⟨0, by decide, h⟩
      · exact ⟨1, by decide, h⟩
      · exact ⟨2, by decide, h⟩
  rw [plySpecAt_eq_none_iff, plyClasses_eq_none, plyWidth_eq_none, hany fun k => 5 < byteAt l k ∧ byteAt l k ≠ 0xFF]
  generalize byteAt l i = c0
  generalize byteAt l (i + 1) = c1
  generalize byteAt l (i + 2) = c2
  omega

/-- A stretch of a payload, byte by byte. -/
theorem take_drop_eq_bytes {k : Nat} (h : i + k ≤ l.length) :
    (l.drop i).take k = (List.range k).map fun j => u8 (byteAt l (i + j)) := by
  refine List.ext_getElem (by simp; omega) fun j hj hj' => ?_
  have hlt : i + j < l.length := by
    rw [List.length_take, List.length_drop] at hj
    omega
  simp [byteAt, List.getElem?_eq_getElem hlt]

theorem be16_nat16At (l : List Byte) (j : Nat) : be16 (nat16At l j) = [u8 (byteAt l j), u8 (byteAt l (j + 1))] := by
  have h0 := byteAt_lt l j
  have h1 := byteAt_lt l (j + 1)
  have hdiv : nat16At l j / 256 = byteAt l j := by
    unfold nat16At
    omega
  have hlow : u8 (nat16At l j) = u8 (byteAt l (j + 1)) := by
    apply BitVec.eq_of_toNat_eq
    rw [toNat_u8, toNat_u8]
    unfold nat16At
    omega
  rw [be16, hdiv, hlow]

theorem nat16At_lt (l : List Byte) (j : Nat) : nat16At l j < 65536 := by
  have h0 := byteAt_lt l j
  have h1 := byteAt_lt l (j + 1)
  unfold nat16At
  omega

/-- An admitted ply spec gives its six bytes back (R125). -/
theorem bytes_plySpecAt {sp : PlySpec} (h : plySpecAt l i = some sp) (hlen : i + 6 ≤ l.length) :
    sp.bytes = (l.drop i).take 6 := by
  obtain ⟨cs, w, hcs, hw, rfl⟩ := plySpecAt_eq_some h
  obtain ⟨h0, h1, h2⟩ := plyClasses_bytes hcs
  have hspecies : (BitVec.ofNat 16 (nat16At l (i + 4))).toNat = nat16At l (i + 4) := Nat.mod_eq_of_lt (nat16At_lt l _)
  rw [take_drop_eq_bytes hlen, PlySpec.bytes, h0, h1, h2, plyWidth_byte hw, hspecies, be16_nat16At]
  rfl

/-- The admitted ply specs of a payload give their bytes back, in their order. -/
theorem bytes_plySpecsAt {n : Nat} {specs : List PlySpec} (h : plySpecsAt l i n = some specs)
    (hlen : i + 6 * n ≤ l.length) : specs.flatMap PlySpec.bytes = (l.drop i).take (6 * n) := by
  induction n generalizing i specs with
  | zero =>
    cases h
    rfl
  | succ n ih =>
    unfold plySpecsAt at h
    split at h
    · rename_i sp rest hsp hrest
      cases h
      have hsplit : 6 * (n + 1) = 6 + 6 * n := by omega
      rw [List.flatMap_cons, bytes_plySpecAt hsp (by omega), ih hrest (by omega), hsplit, List.take_add, List.drop_drop]
    · cases h

theorem plySpecsAt_eq_none {n : Nat} : plySpecsAt l i n = none ↔ ∃ k < n, plySpecAt l (i + 6 * k) = none := by
  induction n generalizing i with
  | zero => simp [plySpecsAt]
  | succ n ih =>
    have hstep : plySpecsAt l i (n + 1) = none ↔ plySpecAt l i = none ∨ plySpecsAt l (i + 6) n = none := by
      rw [plySpecsAt]
      cases plySpecAt l i <;> cases plySpecsAt l (i + 6) n <;> simp
    rw [hstep, ih]
    constructor
    · rintro (h | ⟨k, hk, h⟩)
      · exact ⟨0, Nat.succ_pos n, h⟩
      · exact ⟨k + 1, Nat.succ_lt_succ hk, by rwa [show i + 6 * (k + 1) = i + 6 + 6 * k by omega]⟩
    · rintro ⟨k, hk, h⟩
      cases k with
      | zero => exact .inl h
      | succ k => exact .inr ⟨k, Nat.lt_of_succ_lt_succ hk, by rwa [show i + 6 + 6 * k = i + 6 * (k + 1) by omega]⟩

end Specs

/-! ## The payload of a recipe (R125, R126) -/

section Recipes

variable {l : List Byte} {x : Recipe}

theorem recipeOf_eq_none :
    recipeOf l = none ↔ byteAt l 2 = 0 ∨ 15 < byteAt l 2 ∨ l.length ≠ 3 + 6 * byteAt l 2 ∨
      ∃ k < byteAt l 2, plySpecAt l (3 + 6 * k) = none := by
  unfold recipeOf
  dsimp only
  split
  · rename_i h
    simp only [Config.plyMax] at h
    simp only [true_iff]
    tauto
  · rename_i h
    rw [Option.map_eq_none_iff, plySpecsAt_eq_none]
    simp only [not_or, Config.plyMax] at h
    obtain ⟨h0, h15, hlen⟩ := h
    simp only [h0, h15, hlen, false_or]

/-- An admitted recipe gives its payload back (R125). -/
theorem bytes_recipeOf (h : recipeOf l = some x) : x.bytes = l := by
  unfold recipeOf at h
  dsimp only at h
  split at h
  · cases h
  · rename_i hn
    simp only [not_or, not_not] at hn
    obtain ⟨-, -, hlen⟩ := hn
    obtain ⟨specs, hspecs, rfl⟩ := Option.map_eq_some_iff.1 h
    have hnumber : (BitVec.ofNat 16 (nat16At l 0)).toNat = nat16At l 0 := Nat.mod_eq_of_lt (nat16At_lt l _)
    have hhead : be16 (nat16At l 0) ++ [u8 (byteAt l 2)] = l.take 3 := by
      rw [be16_nat16At, ← List.drop_zero (l := l), take_drop_eq_bytes (by omega), List.drop_zero]
      rfl
    have hrest : (l.drop 3).take (6 * byteAt l 2) = l.drop 3 :=
      List.take_of_length_le (by rw [List.length_drop]; omega)
    rw [Recipe.bytes, hnumber, length_of_plySpecsAt hspecs, hhead, bytes_plySpecsAt hspecs (by omega), hrest,
      List.take_append_drop]

end Recipes

/-! ## RECIPE LOAD and FEEDER SETUP -/

section Requests

variable {g : Feeder} {f : Frame} {s : State} {x : Recipe}

theorem exec_recipeLoad (h : s.asks (.feeder g) 0x40 f) {r : Reply} {t : State}
    (hb : recipeLoadBody g f.payload s = (r, t)) :
    exec (.recipeLoad (.feeder g) f) s = .next (t.answer (.feeder g) r) := exec_answer rfl h hb

theorem recipeLoadBody_refused {l : List Byte} (h : recipeOf l = none) : recipeLoadBody g l s = refuse .badArg s := by
  unfold recipeLoadBody
  rw [h]

theorem recipeLoadBody_of {l : List Byte} (h : recipeOf l = some x) :
    recipeLoadBody g l s =
      if 2 ≤ (s.feeder g).recipes.length then refuse .full (s.raise (.feeder g) .recipeOverflow)
      else (⟨.ok, [u8 ((s.feeder g).load x).recipes.length, u8 (((s.feeder g).load x).position.getD 0)]⟩,
        s.setFeeder g ((s.feeder g).load x)) := by
  unfold recipeLoadBody
  rw [h]
  rfl

theorem FeederRec.load_empty {r : FeederRec} (h : r.recipes = []) :
    r.load x = { r with recipes := [x], position := some 1 } := by
  rw [FeederRec.load, if_pos h, h]
  rfl

theorem FeederRec.load_one {r : FeederRec} {head : Recipe} (h : r.recipes = [head]) :
    r.load x = { r with recipes := [head, x] } := by
  rw [FeederRec.load, if_neg (by rw [h]; exact List.cons_ne_nil _ _), h]
  rfl

theorem recipeLoadBody_one {l : List Byte} {head : Recipe} {n : Nat} (h : recipeOf l = some x)
    (hone : (s.feeder g).recipes = [head]) (hpos : (s.feeder g).position = some n) :
    recipeLoadBody g l s = (⟨.ok, [2, u8 n]⟩, s.setFeeder g { s.feeder g with recipes := [head, x] }) := by
  have hroom : ¬2 ≤ (s.feeder g).recipes.length := by simp [hone]
  have hload := FeederRec.load_one (x := x) hone
  have hposition : ((s.feeder g).load x).position.getD 0 = n := by
    rw [hload]
    exact congrArg (fun o : Option Nat => o.getD 0) hpos
  rw [recipeLoadBody_of h, if_neg hroom, hposition, hload]
  rfl

theorem exec_feederSetup (h : s.asks (.feeder g) 0x42 f) {r : Reply} {t : State}
    (hb : feederSetupBody g f.payload s = (r, t)) :
    exec (.feederSetup (.feeder g) f) s = .next (t.answer (.feeder g) r) := exec_answer rfl h hb

theorem FeederRec.callState_idle {r : FeederRec} : r.callState = .idle ↔ r.unserved = [] ∧ r.grants = [] := by
  unfold FeederRec.callState
  by_cases hu : r.unserved = [] <;> by_cases hg : r.grants = [] <;> simp [hu, hg]

theorem PatchSlot.isEmpty_iff {x : PatchSlot} : x.isEmpty = true ↔ x = .empty := by
  cases x <;> simp [PatchSlot.isEmpty]

/-- FEEDER SETUP with an admitted mode byte (R134, R135). -/
theorem feederSetupBody_of {size mode timeout : Byte} {m : RecipeMode} (hm : recipeMode mode.toNat = some m) :
    feederSetupBody g [size, mode, timeout] s =
      if (s.feeder g).callState ≠ .idle ∨ !(s.feeder g).patch.isEmpty then refuse .busy s
      else (⟨if clamp 1 4 size.toNat = size.toNat ∧ clamp 1 60 timeout.toNat = timeout.toNat then .ok else .clamped,
          [u8 (clamp 1 4 size.toNat), u8 m.code, u8 (clamp 1 60 timeout.toNat)]⟩,
        s.setFeeder g { s.feeder g with
          groupSize := clamp 1 4 size.toNat, mode := m, timeout := clamp 1 60 timeout.toNat }) := by
  unfold feederSetupBody
  rw [if_neg (by simp), show recipeMode (byteAt [size, mode, timeout] 1) = some m from hm]
  rfl

theorem recipeMode_of_le {n : Nat} (h : n ≤ 1) :
    recipeMode n = some (if n = 0 then .runOut else .repeating) ∧
      (if n = 0 then RecipeMode.runOut else .repeating).code = n := by
  interval_cases n <;> exact ⟨rfl, rfl⟩

theorem recipeMode_eq_none {n : Nat} (h : 1 < n) : recipeMode n = none := by
  obtain ⟨k, rfl⟩ : ∃ k, n = k + 2 := ⟨n - 2, by omega⟩
  rfl

end Requests

/-- Settles O41: the checks of a recipe, RECIPE LOAD by the queue, FEEDER SETUP by the call. -/
theorem recipeLoadAndFeederSetup : Obligations.RecipeLoadAndFeederSetup := by
  refine ⟨fun g f s h => ⟨fun hnone => exec_recipeLoad h (recipeLoadBody_refused hnone), fun x hx => ?_⟩,
    fun l => ⟨recipeOf_eq_none, fun i => plySpecAt_refused⟩, fun g f s h => ⟨fun hlen => exec_feederSetup h (if_pos hlen),
      fun size mode timeout hf => ⟨fun hmode => ?_, fun hmode => ?_⟩⟩⟩
  · obtain ⟨hlow, hhigh⟩ := plies_of_recipeOf hx
    have hbody := recipeLoadBody_of (g := g) (s := s) hx
    refine ⟨bytes_recipeOf hx, hlow, hhigh, fun hfull => exec_recipeLoad h (hbody.trans (if_pos hfull)), fun hnil => ?_,
      fun head n hone hpos => ?_⟩
    · have hroom : ¬2 ≤ (s.feeder g).recipes.length := by simp [hnil]
      rw [if_neg hroom, FeederRec.load_empty hnil] at hbody
      exact exec_recipeLoad h hbody
    · exact exec_recipeLoad h (recipeLoadBody_one hx hone hpos)
  · refine exec_feederSetup h ?_
    unfold feederSetupBody
    rw [hf, if_neg (by simp), show recipeMode (byteAt [size, mode, timeout] 1) = none from recipeMode_eq_none hmode]
    rfl
  · obtain ⟨hm, hcode⟩ := recipeMode_of_le hmode
    have hbody := feederSetupBody_of (g := g) (s := s) (size := size) (timeout := timeout) hm
    rw [← hf] at hbody
    refine ⟨fun hbusy => exec_feederSetup h (hbody.trans (if_pos ?_)), fun hu hg hp => ?_⟩
    · by_contra hfree
      simp only [not_or, not_not, Bool.not_eq_true', Bool.not_eq_false] at hfree
      obtain ⟨hidle, hempty⟩ := hfree
      obtain ⟨hu, hg⟩ := FeederRec.callState_idle.1 hidle
      rcases hbusy with h | h | h
      · exact h hu
      · exact h hg
      · exact h (PatchSlot.isEmpty_iff.1 hempty)
    · have hfree : ¬((s.feeder g).callState ≠ .idle ∨ (!(s.feeder g).patch.isEmpty) = true) := by
        rw [FeederRec.callState_idle.2 ⟨hu, hg⟩, hp]
        decide
      have hmodebyte : u8 (if mode.toNat = 0 then RecipeMode.runOut else .repeating).code = mode := by
        rw [hcode, u8_toNat]
      have hzero : (if mode.toNat = 0 then RecipeMode.runOut else .repeating) =
          if mode = 0 then .runOut else .repeating :=
        if_congr ⟨fun h => BitVec.eq_of_toNat_eq h, fun h => congrArg BitVec.toNat h⟩ rfl rfl
      have hfits : (clamp 1 4 size.toNat = size.toNat ∧ clamp 1 60 timeout.toNat = timeout.toNat) ↔
          1 ≤ size.toNat ∧ size.toNat ≤ 4 ∧ 1 ≤ timeout.toNat ∧ timeout.toNat ≤ 60 := by
        rw [clamp_eq_self_iff (by decide), clamp_eq_self_iff (by decide), and_assoc]
      rw [if_neg hfree, hmodebyte, hzero, if_congr hfits rfl rfl] at hbody
      exact exec_feederSetup h hbody

end Sys2Proof.Machine
end

section
/-! PLY CALL, PATCH CALL, FEEDER STOP and the timeout of a wait (R142, R143, R156, R162, R167). -/

namespace Sys2Proof.Machine

set_option Elab.async false

open Sys2Proof

/-! ## The feeders and the ports, apart from what changes around them -/

section Frame

variable {s t : State} {f g : Feeder}

theorem feeder_other_ne (f : Feeder) : f.other ≠ f := by cases f <;> decide

theorem State.CallFrame.of_ports (h : s.CallFrame t) (hp : t.ports = s.ports) :
    t = { s with bins := t.bins, feeders := t.feeders } := by
  refine Eq.trans (h : t = _) ?_
  rw [hp]

theorem State.feeder_clearClaim (s : State) (f g : Feeder) : (s.clearClaim f).feeder g = s.feeder g :=
  State.feeder_congr (State.clearClaim_feeders ..) g

theorem State.feeder_send (s : State) (p : Port) (o : OutcomeRec) (g : Feeder) : (s.send p o).feeder g = s.feeder g :=
  State.feeder_congr (changes_send (l := []) s p o .feeders (by simp)) g

theorem State.bin_send (s : State) (p : Port) (o : OutcomeRec) (b : BinId) : (s.send p o).bin b = s.bin b :=
  State.bin_congr (changes_send (l := []) s p o .bins (by simp)) b

theorem State.bin_setFeeder (s : State) (f : Feeder) (r : FeederRec) (b : BinId) : (s.setFeeder f r).bin b = s.bin b :=
  State.bin_congr (State.setFeeder_bins s f r) b

end Frame

/-! ## PLY CALL (R142, R143, R128) -/

section Calls

variable {g : Feeder} {f : Frame} {s : State}

theorem exec_plyCall (h : s.asks (.feeder g) 0x43 f) {r : Reply} {t : State} (hb : plyCallBody g f.payload s = (r, t)) :
    exec (.plyCall (.feeder g) f) s = .next (t.answer (.feeder g) r) := exec_answer rfl h hb

theorem plyCallBody_refused {l : List Byte} (hl : l ≠ []) : plyCallBody g l s = refuse .badArg s :=
  withoutPayload_cons hl _ _

theorem plyCallBody_busy {l : List Byte} (hl : l = []) (h : (s.feeder g).unserved ≠ [] ∨ (s.feeder g).grants ≠ []) :
    plyCallBody g l s = refuse .busy s := by
  subst hl
  refine if_pos fun hidle => ?_
  obtain ⟨hu, hg⟩ := FeederRec.callState_idle.1 hidle
  rcases h with h | h
  · exact h hu
  · exact h hg

theorem plyCallBody_noRecipe {l : List Byte} (hl : l = []) (hidle : (s.feeder g).callState = .idle)
    (h : (s.feeder g).recipes = []) :
    plyCallBody g l s = refuse .noRecipe s := by
  subst hl
  refine (if_neg (not_not.2 hidle)).trans ?_
  rw [h]

theorem plyCallBody_of {l : List Byte} {head : Recipe} {later : List Recipe} {n : Nat} (hl : l = [])
    (hidle : (s.feeder g).callState = .idle) (h : (s.feeder g).recipes = head :: later) (hn : (s.feeder g).position = some n) :
    plyCallBody g l s =
      (⟨.ok, be16 head.number.toNat ++ [u8 n, u8 ((s.feeder g).plyGroup head n).length]⟩,
        (s.setFeeder g { s.feeder g with unserved := (s.feeder g).plyGroup head n }).searchRoundBy g) := by
  have hposition : (s.feeder g).position.getD 1 = n := by
    rw [hn]
    rfl
  subst hl
  refine (if_neg (not_not.2 hidle)).trans ?_
  rw [h]
  dsimp only
  rw [hposition, ← h]

theorem getElem?_entriesFrom (number : RecipeNo) (k : Nat) (specs : List PlySpec) (j : Nat) :
    (entriesFrom number k specs)[j]? = specs[j]?.map fun sp => ⟨sp, .call number (k + j), false⟩ := by
  induction specs generalizing k j with
  | nil => rfl
  | cons sp rest ih =>
    cases j with
    | zero => rfl
    | succ j =>
      rw [entriesFrom, List.getElem?_cons_succ, List.getElem?_cons_succ, ih, Nat.add_right_comm]
      rfl

/-- The group is copied from the position on (R128, R143). -/
theorem FeederRec.length_plyGroup (r : FeederRec) {head : Recipe} {n : Nat} (hlow : 1 ≤ n) (hhigh : n ≤ head.plies.length) :
    (r.plyGroup head n).length = min r.groupSize (head.plies.length - n + 1) := by
  rw [FeederRec.plyGroup, length_entriesFrom, List.length_take, List.length_drop]
  omega

theorem FeederRec.getElem?_plyGroup {r : FeederRec} {head : Recipe} {n k : Nat} {e : PlyEntry}
    (h : (r.plyGroup head n)[k]? = some e) :
    head.plies[n - 1 + k]? = some e.spec ∧ e.reServed = false ∧ e.origin = .call head.number (n + k) := by
  rw [FeederRec.plyGroup, getElem?_entriesFrom] at h
  obtain ⟨sp, hsp, rfl⟩ := Option.map_eq_some_iff.1 h
  refine ⟨?_, rfl, rfl⟩
  have hk : k < r.groupSize := by
    have hlt := (List.getElem?_eq_some_iff.1 hsp).1
    rw [List.length_take] at hlt
    omega
  rwa [List.getElem?_take_of_lt hk, List.getElem?_drop] at hsp

end Calls

/-- Settles O42: the group copied from the head recipe. -/
theorem plyCall : Obligations.PlyCall := by
  refine fun g f s h => ⟨fun hf => exec_plyCall h (plyCallBody_refused hf), fun hf => ⟨fun hbusy => ?_,
    fun hu hg => ⟨fun hnone => ?_, fun head later n hrecipes hn hlow hhigh => ?_⟩⟩⟩
  · exact exec_plyCall h (plyCallBody_busy hf hbusy)
  · exact exec_plyCall h (plyCallBody_noRecipe hf (FeederRec.callState_idle.2 ⟨hu, hg⟩) hnone)
  · have hbody := plyCallBody_of hf (FeederRec.callState_idle.2 ⟨hu, hg⟩) hrecipes hn
    exact ⟨_, exec_plyCall h hbody, FeederRec.length_plyGroup _ hlow hhigh, fun k e => FeederRec.getElem?_plyGroup⟩

/-! ## PATCH CALL (R161, R162) -/

section Patch

variable {g : Feeder} {f : Frame} {s : State} {l : List Byte} {spec : PlySpec}

theorem exec_patchCall (h : s.asks (.feeder g) 0x44 f) {r : Reply} {t : State}
    (hb : patchCallBody g f.payload s = (r, t)) : exec (.patchCall (.feeder g) f) s = .next (t.answer (.feeder g) r) :=
  exec_answer rfl h hb

theorem patchCallBody_refused (h : l.length ≠ 6 ∨ plySpecAt l 0 = none) : patchCallBody g l s = refuse .badArg s := by
  unfold patchCallBody
  split
  · rfl
  · rename_i hlen
    rw [h.resolve_left hlen]

/-- The state a PATCH CALL hands to its search round (R161, R162). -/
def State.patched (s : State) (g : Feeder) (spec : PlySpec) : State :=
  (s.setAside g).setFeeder g { (s.setAside g).feeder g with patch := .unserved ⟨spec, .patch, false⟩ }

theorem patchCallBody_of (hlen : l.length = 6) (hspec : plySpecAt l 0 = some spec) :
    patchCallBody g l s =
      if !(s.feeder g).patch.isEmpty then refuse .busy s else (⟨.ok, []⟩, (s.patched g spec).searchRoundBy g) := by
  unfold patchCallBody
  rw [if_neg (not_not.2 hlen), hspec]
  rfl

theorem State.patched_spec (s : State) (g : Feeder) (spec : PlySpec) :
    s.patched g spec = { s with bins := (s.patched g spec).bins, feeders := (s.patched g spec).feeders } ∧
      (s.patched g spec).feeder g = { s.feeder g with patch := .unserved ⟨spec, .patch, false⟩, waiting := none } ∧
      (s.patched g spec).feeder g.other = s.feeder g.other ∧
      ∀ b, (s.patched g spec).bin b = { s.bin b with
        claim := if (s.feeder g).waiting ≠ none ∧ (s.bin b).claim = some g then none else (s.bin b).claim } := by
  refine ⟨((callFrame_setAside s g).trans (callFrame_setFeeder _ g _)).of_ports ?_, ?_, ?_, fun b => ?_⟩
  · exact (State.setFeeder_ports _ g _).trans (s.setAside_ports g)
  · rw [State.patched, State.feeder_setFeeder_self, State.feeder_setAside_self]
  · rw [State.patched, State.feeder_setFeeder_ne _ (feeder_other_ne g), State.feeder_setAside_ne _ _ (feeder_other_ne g)]
  · rw [State.patched, State.bin_setFeeder, State.bin_setAside]

end Patch

/-- Settles O43: the slot taken, with the waiting ply set aside. -/
theorem patchCall : Obligations.PatchCall := by
  refine fun g f s h => ⟨fun hbad => exec_patchCall h (patchCallBody_refused hbad), fun spec hlen hspec => ?_⟩
  have hbody := patchCallBody_of (g := g) (s := s) hlen hspec
  refine ⟨?_, fun hbusy => exec_patchCall h (hbody.trans (if_pos ?_)), fun hempty => ?_⟩
  · rw [bytes_plySpecAt hspec (Nat.le_of_eq hlen.symm), List.drop_zero, List.take_of_length_le (Nat.le_of_eq hlen)]
  · cases hp : (s.feeder g).patch with
    | empty => exact absurd hp hbusy
    | unserved e => rfl
    | granted e => rfl
  · rw [hempty] at hbody
    exact ⟨s.patched g spec, exec_patchCall h hbody, s.patched_spec g spec⟩

/-! ## The timeout of a wait (R156) -/

section Timeout

variable {g : Feeder} {s : State} {e : PlyEntry} {w : Wait}

theorem State.CallFrame.countShortage {t : State} (h : s.CallFrame t) :
    t.countShortage g = { s with
      bins := t.bins, feeders := t.feeders, ports := (t.countShortage g).ports
      counters := (s.bump (.shortages g)).counters } := by
  have hcounters : (t.countShortage g).counters = (s.bump (.shortages g)).counters := by
    rw [(h : t = _)]
    rfl
  rw [← hcounters]
  exact congrArg (fun v : State => ({ v with
    ports := (t.countShortage g).ports, counters := (t.countShortage g).counters } : State)) h

/-- A feeder's claim and work gone, the record `o` sent, and SHORTAGE set and counted (R156). -/
def State.timedOut (s : State) (g : Feeder) (r : FeederRec) (o : OutcomeRec) : State :=
  (((s.clearClaim g).setFeeder g r).send (.feeder g) o).countShortage g

theorem State.timedOut_spec (s : State) (g : Feeder) (r : FeederRec) (o : OutcomeRec) :
    s.timedOut g r o = { s with
      bins := (s.timedOut g r o).bins, feeders := (s.timedOut g r o).feeders, ports := (s.timedOut g r o).ports
      counters := (s.bump (.shortages g)).counters } ∧
      (∀ b, (s.timedOut g r o).bin b =
        { s.bin b with claim := if (s.bin b).claim = some g then none else (s.bin b).claim }) ∧
      (s.timedOut g r o).feeder g.other = s.feeder g.other ∧ (s.timedOut g r o).feeder g = r ∧
      (s.timedOut g r o).ports = ((s.send (.feeder g) o).raise (.feeder g) .shortage).ports := by
  have hframe : s.CallFrame (((s.clearClaim g).setFeeder g r).send (.feeder g) o) :=
    ((callFrame_clearClaim s g).trans (callFrame_setFeeder _ g r)).trans (callFrame_send _ _ _)
  have hports : (((s.clearClaim g).setFeeder g r).send (.feeder g) o).ports = (s.send (.feeder g) o).ports :=
    State.send_congr (s := s) (State.setFeeder_ports (s.clearClaim g) g r) _ _
  refine ⟨hframe.countShortage, fun b => ?_, ?_, ?_, State.raise_congr hports _ _⟩
  · exact (State.bin_send _ _ _ b).trans ((State.bin_setFeeder _ g r b).trans (s.bin_clearClaim g b))
  · exact (State.feeder_send _ _ _ _).trans ((State.feeder_setFeeder_ne _ (feeder_other_ne g) r).trans (s.feeder_clearClaim g _))
  · exact (State.feeder_send _ _ _ _).trans (State.feeder_setFeeder_self _ g r)

theorem State.claimOf_isSome : (s.claimOf g).isSome = true ↔ ∃ b, (s.bin b).claim = some g := by
  simp [State.claimOf, List.find?_isSome, mem_binsInOrder]

theorem State.waitExpiry_of (hw : (s.feeder g).waiting = some w) (he : (s.feeder g).front = some e)
    (hnow : w.expiry ≤ s.now) :
    s.waitExpiry g = if e.origin.isPatch then s.patchTimeout g else s.callTimeout g e := by
  have hsame : ({ s with now := max s.now w.expiry } : State) = s := by rw [Nat.max_eq_left hnow]
  unfold State.waitExpiry
  rw [hw, he]
  dsimp only
  rw [hsame]

theorem State.callTimeout_eq (s : State) (g : Feeder) (e : PlyEntry) :
    ∃ u : State, u = s.timedOut g { s.feeder g with unserved := [], waiting := none }
        (.callEnd .short false e.reServed (s.feeder g).grants.length e.origin.recipe e.origin.ply) ∧
      s.callTimeout g e = if (s.claimOf g).isSome then u.searchRound else u := ⟨_, rfl, rfl⟩

theorem State.patchTimeout_eq (s : State) (g : Feeder) :
    ∃ u : State, u = s.timedOut g { s.feeder g with patch := .empty, waiting := none }
        (.callEnd .short true false (s.feeder g).grants.length 0 0) ∧
      s.patchTimeout g = u.searchRoundBy g := ⟨_, rfl, rfl⟩

end Timeout

/-- Settles O46: the timeout of a call ply and of a patch. -/
theorem waitExpiry : Obligations.WaitExpiry := by
  intro g s w e hw he hnow
  have hexec := State.waitExpiry_of hw he hnow
  cases hp : e.origin.isPatch with
  | false =>
    obtain ⟨u, hu, htimeout⟩ := s.callTimeout_eq g e
    rw [hp, if_neg (by decide), htimeout] at hexec
    obtain ⟨heq, hbins, hother, hself, hports⟩ := s.timedOut_spec g { s.feeder g with unserved := [], waiting := none }
      (.callEnd .short false e.reServed (s.feeder g).grants.length e.origin.recipe e.origin.ply)
    rw [← hu] at heq hbins hother hself hports
    refine ⟨_, u, congrArg Host.Outcome.next hexec, heq, hbins, hother, fun _ => ⟨hself, hports, fun hclaim => ?_, fun hnone => ?_⟩, nofun⟩
    · exact if_pos (State.claimOf_isSome.2 hclaim)
    · exact if_neg fun hsome => (State.claimOf_isSome.1 hsome).elim hnone
  | true =>
    obtain ⟨u, hu, htimeout⟩ := s.patchTimeout_eq g
    rw [hp, if_pos rfl, htimeout] at hexec
    obtain ⟨heq, hbins, hother, hself, hports⟩ := s.timedOut_spec g { s.feeder g with patch := .empty, waiting := none }
      (.callEnd .short true false (s.feeder g).grants.length 0 0)
    rw [← hu] at heq hbins hother hself hports
    exact ⟨_, u, congrArg Host.Outcome.next hexec, heq, hbins, hother, nofun, fun _ => ⟨hself, hports, rfl⟩⟩

/-! ## FEEDER STOP (R136, R167) -/

section Stop

variable {g : Feeder} {f : Frame} {s : State}

theorem exec_feederStop (h : s.asks (.feeder g) 0x47 f) {r : Reply} {t : State}
    (hb : feederStopBody g f.payload s = (r, t)) : exec (.feederStop (.feeder g) f) s = .next (t.answer (.feeder g) r) :=
  exec_answer rfl h hb

/-- The marks of a list of grants cleared (R167). -/
theorem State.bin_releaseMarks (s : State) (gs : List Grant) (b : BinId) :
    (s.releaseMarks gs).bin b = { s.bin b with
      stack := (s.bin b).stack.map fun x =>
        if gs.any (fun e => e.bin == b && e.store == x.store) then { x with reserved := none } else x } := by
  induction gs generalizing s with
  | nil => simp [State.releaseMarks]
  | cons e gs ih =>
    have hstep : s.releaseMarks (e :: gs) = (s.setBin e.bin ((s.bin e.bin).mark e.store none)).releaseMarks gs := rfl
    rw [hstep, ih, State.bin_setBin]
    by_cases hb : b = e.bin
    · rw [if_pos hb, hb]
      refine congrArg (fun l => ({ s.bin e.bin with stack := l } : BinRec)) ?_
      rw [BinRec.mark, List.map_map]
      refine List.map_congr_left fun x _ => ?_
      by_cases hx : x.store = e.store
      · simp [hx]
      · simp [hx, Ne.symm hx]
    · rw [if_neg hb]
      have hne : (e.bin == b) = false := beq_false_of_ne (Ne.symm hb)
      simp only [List.any_cons, hne, Bool.false_and, Bool.false_or]

theorem callFrame_releaseMarks (s : State) (gs : List Grant) : s.CallFrame (s.releaseMarks gs) := by
  unfold State.releaseMarks
  induction gs generalizing s with
  | nil => exact .refl s
  | cons e gs ih => exact (callFrame_setBin s _ _).trans (ih _)

theorem State.releaseMarks_ports (s : State) (gs : List Grant) : (s.releaseMarks gs).ports = s.ports := by
  unfold State.releaseMarks
  induction gs generalizing s with
  | nil => rfl
  | cons e gs ih => exact ih _

/-- The queue flushed by its mode (R136). -/
theorem FeederRec.flushed_spec (r : FeederRec) :
    r.flushed = { r with
      recipes := match r.mode with
        | .repeating => r.recipes.take 1
        | .runOut => []
      position := match r.mode, r.recipes with
        | .repeating, _ :: _ => some 1
        | .repeating, [] => none
        | .runOut, _ => none } := by
  unfold FeederRec.flushed
  cases r.mode <;> cases r.recipes <;> rfl

/-- A feeder's record after FEEDER STOP (R167). -/
def FeederRec.stopped (r : FeederRec) : FeederRec :=
  { r.flushed with unserved := [], grants := [], patch := .empty, waiting := none }

/-- The state of FEEDER STOP before its records are sent. -/
def State.idled (s : State) (g : Feeder) : State :=
  ((s.clearClaim g).releaseMarks (s.feeder g).allGrants).setFeeder g (s.feeder g).stopped

/-- The state FEEDER STOP hands to its search round (R167). -/
def State.stopped (s : State) (g : Feeder) : State :=
  let t := (s.idled g).send (.feeder g) (.callEnd .stopped false false (s.feeder g).grants.length 0 0)
  if (s.feeder g).patch.isEmpty then t
  else t.send (.feeder g) (.callEnd .stopped true false (bit (s.feeder g).patch.grant.isSome) 0 0)

theorem feederStopBody_empty {l : List Byte} (hl : l = []) :
    feederStopBody g l s =
      (⟨.ok, [u8 (s.feeder g).allGrants.length,
        u8 ((s.feeder g).unserved.length + bit (s.feeder g).patch.ply.isSome)]⟩, (s.stopped g).searchRound) := by
  subst hl
  rfl

theorem State.idled_ports (s : State) (g : Feeder) : (s.idled g).ports = s.ports :=
  (State.setFeeder_ports _ g _).trans (State.releaseMarks_ports _ _)

theorem callFrame_stopped (s : State) (g : Feeder) : s.CallFrame (s.stopped g) := by
  have hidled : s.CallFrame (s.idled g) :=
    ((callFrame_clearClaim s g).trans (callFrame_releaseMarks _ _)).trans (callFrame_setFeeder _ g _)
  unfold State.stopped
  dsimp only
  split
  · exact hidled.trans (callFrame_send _ _ _)
  · exact (hidled.trans (callFrame_send _ _ _)).trans (callFrame_send _ _ _)

theorem State.stopped_feeders (s : State) (g : Feeder) : (s.stopped g).feeders = (s.idled g).feeders := by
  have hsend (t : State) (o : OutcomeRec) : (t.send (.feeder g) o).feeders = t.feeders :=
    changes_send (l := []) t _ o .feeders (by simp)
  unfold State.stopped
  dsimp only
  split
  · exact hsend _ _
  · exact (hsend _ _).trans (hsend _ _)

theorem State.stopped_bins (s : State) (g : Feeder) : (s.stopped g).bins = (s.idled g).bins := by
  have hsend (t : State) (o : OutcomeRec) : (t.send (.feeder g) o).bins = t.bins :=
    changes_send (l := []) t _ o .bins (by simp)
  unfold State.stopped
  dsimp only
  split
  · exact hsend _ _
  · exact (hsend _ _).trans (hsend _ _)

theorem State.stopped_ports (s : State) (g : Feeder) :
    ∃ v : State, v = s.send (.feeder g) (.callEnd .stopped false false (s.feeder g).grants.length 0 0) ∧
      (s.stopped g).ports = (if (s.feeder g).patch = .empty then v
        else v.send (.feeder g) (.callEnd .stopped true false (bit (s.feeder g).patch.grant.isSome) 0 0)).ports := by
  refine ⟨_, rfl, ?_⟩
  have hfirst := State.send_congr (s.idled_ports g) (.feeder g)
    (.callEnd .stopped false false (s.feeder g).grants.length 0 0)
  unfold State.stopped
  dsimp only
  by_cases hp : (s.feeder g).patch = .empty
  · rw [if_pos (PatchSlot.isEmpty_iff.2 hp), if_pos hp]
    exact hfirst
  · rw [if_neg (mt PatchSlot.isEmpty_iff.1 hp), if_neg hp]
    exact State.send_congr hfirst _ _

theorem State.bin_idled (s : State) (g : Feeder) (b : BinId) :
    (s.idled g).bin b = { s.bin b with
      claim := if (s.bin b).claim = some g then none else (s.bin b).claim
      stack := (s.bin b).stack.map fun x =>
        if (s.feeder g).allGrants.any (fun e => e.bin == b && e.store == x.store) then { x with reserved := none }
        else x } := by
  rw [State.idled, State.bin_setFeeder, State.bin_releaseMarks, State.bin_clearClaim]

end Stop

/-- Settles O45: the feeder's work cancelled, its port told, and the round that follows. -/
theorem feederStop : Obligations.FeederStop := by
  refine fun g f s h => ⟨fun hf => exec_feederStop h (withoutPayload_cons hf _ _), fun hf => ?_⟩
  obtain ⟨v, hv, hports⟩ := s.stopped_ports g
  refine ⟨s.stopped g, v, exec_feederStop h (feederStopBody_empty hf), callFrame_stopped s g, ?_, ?_, fun b => ?_, hv, hports⟩
  · have hself : (s.stopped g).feeder g = (s.feeder g).stopped := by
      rw [State.feeder_congr (s.stopped_feeders g), State.idled, State.feeder_setFeeder_self]
    exact hself.trans (congrArg (fun r : FeederRec =>
      { r with unserved := [], grants := [], patch := .empty, waiting := none }) (s.feeder g).flushed_spec)
  · rw [State.feeder_congr (s.stopped_feeders g), State.idled, State.feeder_setFeeder_ne _ (feeder_other_ne g),
      State.feeder_congr (State.releaseMarks_feeders ..), s.feeder_clearClaim]
  · rw [State.bin_congr (s.stopped_bins g), State.bin_idled]

end Sys2Proof.Machine
end

section
/-! The picks (R158 to R160). -/

namespace Sys2Proof.Machine

set_option Elab.async false

open Sys2Proof

section Picks

variable {g : Feeder} {f : Frame} {s : State} {n : StoreNo} {b : BinId} {below : List Sheet} {x : Sheet} {l : List Byte}
  {accept : BinId → Sheet → State}

/-! ## The checks (R158) -/

theorem State.reservedIn_eq_none :
    s.reservedIn g n = none ↔ ∀ b, ∀ x ∈ (s.bin b).stack, x.store = n → x.reserved ≠ some g := by
  simp [State.reservedIn, List.find?_eq_none, mem_binsInOrder]

theorem State.reservedIn_some (h : s.reservedIn g n = some b) : ∃ x ∈ (s.bin b).stack, x.store = n := by
  have hany := List.find?_some h
  obtain ⟨x, hx, hmatch⟩ := List.any_eq_true.1 hany
  simp only [Bool.and_eq_true, beq_iff_eq] at hmatch
  exact ⟨x, hx, hmatch.1⟩

theorem pickBody_unfit (h : l.length ≠ 2) : pickBody l g s accept = refuse .badArg s := if_pos h

theorem pickBody_notGranted (hl : l = be16 n.toNat) (h : s.reservedIn g n = none) :
    pickBody l g s accept = refuse .notGranted s := by
  unfold pickBody
  rw [if_neg (by rw [hl]; exact not_not.2 rfl), hl, ofNat_nat16At_be16]
  dsimp only
  rw [h]

theorem pickBody_top (hl : l = be16 n.toNat) (h : s.reservedIn g n = some b)
    (htop : (s.bin b).stack.getLast? = some x) :
    pickBody l g s accept = if x.store ≠ n then refuse .order s else (⟨.ok, x.bytes⟩, accept b x) := by
  unfold pickBody
  rw [if_neg (by rw [hl]; exact not_not.2 rfl), hl, ofNat_nat16At_be16]
  dsimp only
  rw [h]
  dsimp only
  rw [BinRec.top, htop]

theorem pickBody_accepted (hl : l = be16 n.toNat) (h : s.reservedIn g n = some b)
    (hstack : (s.bin b).stack = below ++ [x]) (hx : x.store = n) :
    pickBody l g s accept = (⟨.ok, x.bytes⟩, accept b x) :=
  (pickBody_top hl h (by rw [hstack, List.getLast?_concat])).trans (if_neg (not_not.2 hx))

/-- The reserved record is not on top. -/
theorem pickBody_order (hl : l = be16 n.toNat) (h : ∃ b, ∃ x ∈ (s.bin b).stack, x.store = n ∧ x.reserved = some g)
    (htop : ∀ b x, (s.bin b).stack.getLast? = some x → x.store ≠ n) :
    pickBody l g s accept = refuse .order s := by
  cases hin : s.reservedIn g n with
  | none =>
    obtain ⟨b, x, hx, hn, hg⟩ := h
    exact absurd hg (State.reservedIn_eq_none.1 hin b x hx hn)
  | some b =>
    obtain ⟨y, hy, -⟩ := State.reservedIn_some hin
    have hlast := List.getLast?_eq_some_getLast (List.ne_nil_of_mem hy)
    exact (pickBody_top hl hin hlast).trans (if_pos (htop b _ hlast))

theorem exec_pickDone (h : s.asks (.feeder g) 0x45 f) {r : Reply} {t : State}
    (hb : pickBody f.payload g s (s.pickDone g) = (r, t)) :
    exec (.pickDone (.feeder g) f) s = .next (t.answer (.feeder g) r) := exec_answer rfl h hb

theorem exec_pickFailed (h : s.asks (.feeder g) 0x46 f) {r : Reply} {t : State}
    (hb : pickBody f.payload g s (s.pickFailed g) = (r, t)) :
    exec (.pickFailed (.feeder g) f) s = .next (t.answer (.feeder g) r) := exec_answer rfl h hb

/-! ## What an accepted pick does (R159, R160) -/

theorem FeederRec.withoutGrant_spec (r : FeederRec) (n : StoreNo) {kept : PatchSlot}
    (hkept : kept = match r.patch with
      | .granted e => if e.store = n then .empty else .granted e
      | .unserved e => .unserved e
      | .empty => .empty) :
    r.withoutGrant n = { r with grants := r.grants.filter (·.store ≠ n), patch := kept } := by
  subst hkept
  unfold FeederRec.withoutGrant
  cases r.patch <;> rfl

theorem FeederRec.loseGrant_spec {r : FeederRec} {e : Grant} (he : r.grantOf n = some e) {kept : PatchSlot}
    (hkept : kept = match r.patch with
      | .granted e => if e.store = n then .empty else .granted e
      | .unserved e => .unserved e
      | .empty => .empty) :
    r.loseGrant n = { r with
      grants := r.grants.filter (·.store ≠ n)
      patch := if e.entry.origin.isPatch then .unserved { e.entry with reServed := true } else kept
      unserved := if e.entry.origin.isPatch then r.unserved
        else r.unserved.takeWhile (·.reServed) ++
          { e.entry with reServed := true } :: r.unserved.dropWhile (·.reServed) } := by
  unfold FeederRec.loseGrant
  rw [he]
  dsimp only
  rw [r.withoutGrant_spec n hkept]
  unfold FeederRec.reServe
  cases e.entry.origin.isPatch <;> rfl

theorem State.popTop_split (h : (s.bin b).stack = below ++ [x]) :
    s.popTop b = s.setBin b { s.bin b with stack := below } := by
  rw [State.popTop, h, List.dropLast_concat]

/-- The state of PICK FAILED before FLOAT release and its search round (R160). -/
def State.pickLost (s : State) (g : Feeder) (b : BinId) (below : List Sheet) (n : StoreNo) : State :=
  (((s.setBin b { s.bin b with stack := below }).setFeeder g ((s.feeder g).loseGrant n)).bump (.pickLosses g)).setAside g

theorem State.bin_pickLost (s : State) (g : Feeder) (b : BinId) (below : List Sheet) (n : StoreNo) (c : BinId) :
    ∃ r : BinRec, r = (if c = b then { s.bin b with stack := below } else s.bin c) ∧
      (s.pickLost g b below n).bin c = { r with
        claim := if (s.feeder g).waiting ≠ none ∧ (s.bin c).claim = some g then none else (s.bin c).claim } := by
  refine ⟨_, rfl, ?_⟩
  have hwaiting : ((((s.setBin b { s.bin b with stack := below }).setFeeder g ((s.feeder g).loseGrant n)).bump
      (.pickLosses g)).feeder g).waiting = (s.feeder g).waiting := by
    refine (congrArg FeederRec.waiting (State.feeder_setFeeder_self _ g _)).trans ?_
    obtain ⟨-, -, hw⟩ := (s.feeder g).loseGrant_fields n
    exact hw
  have hbin : (((s.setBin b { s.bin b with stack := below }).setFeeder g ((s.feeder g).loseGrant n)).bump
      (.pickLosses g)).bin c = if c = b then { s.bin b with stack := below } else s.bin c :=
    (State.bin_setFeeder _ g _ c).trans (s.bin_setBin b c _)
  rw [State.pickLost, State.bin_setAside, hwaiting, hbin]
  split
  · rename_i hc
    rw [hc]
  · rfl

/-- Of the state the bins and the feeders alone have changed, then one counter, then the bins and the feeders again. -/
theorem State.eq_of_bump {v u : State} {c : Counter} (hv : v = { s with bins := v.bins, feeders := v.feeders })
    (hu : u = { v.bump c with bins := u.bins, feeders := u.feeders }) :
    u = { s with bins := u.bins, feeders := u.feeders, counters := (s.bump c).counters } := by
  refine hu.trans ?_
  rw [hv]
  rfl

theorem State.pickLost_eq (s : State) (g : Feeder) (b : BinId) (below : List Sheet) (n : StoreNo) :
    s.pickLost g b below n = { s with
      bins := (s.pickLost g b below n).bins, feeders := (s.pickLost g b below n).feeders
      counters := (s.bump (.pickLosses g)).counters } := by
  have hrecord := ((callFrame_setBin s b { s.bin b with stack := below }).trans
    (callFrame_setFeeder _ g ((s.feeder g).loseGrant n))).of_ports (State.setFeeder_ports _ g _)
  exact State.eq_of_bump hrecord ((callFrame_setAside _ g).of_ports (State.setAside_ports _ g))

theorem State.inbound_pickLost (s : State) (g : Feeder) (b : BinId) (below : List Sheet) (n : StoreNo) :
    (s.pickLost g b below n).inbound b = s.inbound b := by
  obtain ⟨r, hr, hbin⟩ := s.bin_pickLost g b below n b
  rw [if_pos rfl] at hr
  have hgate : (s.pickLost g b below n).gate b = s.gate b :=
    State.gate_congr (by rw [s.pickLost_eq g b below n]) b
  rw [State.inbound, hgate, hbin, hr]
  rfl

theorem State.pickFailed_eq (hstack : (s.bin b).stack = below ++ [x]) (hx : x.store = n) :
    s.pickFailed g b x = ((s.pickLost g b below n).floatRelease b).searchRoundBy g := by
  unfold State.pickFailed
  dsimp only
  rw [State.popTop_split hstack, hx]
  rfl

theorem State.pickDone_eq (hstack : (s.bin b).stack = below ++ [x]) (hx : x.store = n) :
    s.pickDone g b x = ((((s.setBin b { s.bin b with stack := below }).setFeeder g ((s.feeder g).withoutGrant n)).bump
      (.picks g)).floatRelease b).searchRound := by
  unfold State.pickDone
  dsimp only
  rw [State.popTop_split hstack, hx]
  rfl

/-- PICK FAILED of the top record: the bins, the feeder and its call before the round (R160). -/
theorem State.pickLost_released {e : Grant} (he : (s.feeder g).grantOf n = some e) {kept : PatchSlot}
    (hkept : kept = match (s.feeder g).patch with
      | .granted e => if e.store = n then .empty else .granted e
      | .unserved e => .unserved e
      | .empty => .empty) :
    ∃ u : State, u = (s.pickLost g b below n).floatRelease b ∧
      u = { s with bins := u.bins, feeders := u.feeders, counters := (s.bump (.pickLosses g)).counters } ∧
      u.bin b = ({ s.bin b with
        stack := below
        claim := if (s.feeder g).waiting ≠ none ∧ (s.bin b).claim = some g then none else (s.bin b).claim } :
          BinRec).floatRelease (s.inbound b) ∧
      (∀ c, c ≠ b → u.bin c = { s.bin c with
        claim := if (s.feeder g).waiting ≠ none ∧ (s.bin c).claim = some g then none else (s.bin c).claim }) ∧
      u.feeder g = { s.feeder g with
        waiting := none, grants := (s.feeder g).grants.filter (·.store ≠ n)
        patch := if e.entry.origin.isPatch then .unserved { e.entry with reServed := true } else kept
        unserved := if e.entry.origin.isPatch then (s.feeder g).unserved
          else (s.feeder g).unserved.takeWhile (·.reServed) ++
            { e.entry with reServed := true } :: (s.feeder g).unserved.dropWhile (·.reServed) } ∧
      u.feeder g.other = s.feeder g.other := by
  refine ⟨_, rfl, ?_, ?_, fun c hc => ?_, ?_, ?_⟩
  · exact congrArg (fun v : State => v.setBin b (((s.pickLost g b below n).bin b).floatRelease
      ((s.pickLost g b below n).inbound b))) (s.pickLost_eq g b below n)
  · obtain ⟨r, hr, hbin⟩ := s.bin_pickLost g b below n b
    rw [if_pos rfl] at hr
    rw [State.bin_floatRelease_self, s.inbound_pickLost, hbin, hr]
  · obtain ⟨r, hr, hbin⟩ := s.bin_pickLost g b below n c
    rw [if_neg hc] at hr
    rw [State.floatRelease, State.bin_setBin_ne _ hc, hbin, hr]
  · rw [State.feeder_congr (State.floatRelease_feeders _ b), State.pickLost, State.feeder_setAside_self]
    refine (congrArg (fun r : FeederRec => { r with waiting := none }) (State.feeder_setFeeder_self _ g _)).trans ?_
    rw [FeederRec.loseGrant_spec he hkept]
  · rw [State.feeder_congr (State.floatRelease_feeders _ b), State.pickLost,
      State.feeder_setAside_ne _ _ (feeder_other_ne g)]
    exact State.feeder_setFeeder_ne _ (feeder_other_ne g) _

end Picks

/-- Settles O44: the pick of the top record, and the refusals in their order. -/
theorem picksAcceptedAndRefused : Obligations.PicksAcceptedAndRefused := by
  refine ⟨fun g f s n b below x kept hf hin hstack hx hkept => ⟨fun h => ?_, fun e h he => ?_⟩,
    fun g f s n => ⟨fun h hlen => exec_pickDone h (pickBody_unfit hlen), fun h hlen => exec_pickFailed h (pickBody_unfit hlen),
      fun hf => ⟨fun hnone => ?_, fun hsome htop => ?_⟩⟩⟩
  · have hdone := (pickBody_accepted (accept := s.pickDone g) hf hin hstack hx)
    rw [State.pickDone_eq hstack hx, FeederRec.withoutGrant_spec _ n hkept] at hdone
    exact ⟨_, exec_pickDone h hdone, rfl⟩
  · have hfailed := (pickBody_accepted (accept := s.pickFailed g) hf hin hstack hx)
    rw [State.pickFailed_eq hstack hx] at hfailed
    obtain ⟨u, hu, hspec⟩ := State.pickLost_released (b := b) (below := below) he hkept
    rw [← hu] at hfailed
    exact ⟨u, exec_pickFailed h hfailed, hspec⟩
  · have hrefused := State.reservedIn_eq_none.2 hnone
    exact ⟨fun h => exec_pickDone h (pickBody_notGranted hf hrefused),
      fun h => exec_pickFailed h (pickBody_notGranted hf hrefused)⟩
  · exact ⟨fun h => exec_pickDone h (pickBody_order hf hsome htop), fun h => exec_pickFailed h (pickBody_order hf hsome htop)⟩

end Sys2Proof.Machine
end

section
/-! The bin a front ply is granted from, and the target of a wait (R144 to R148). -/

namespace Sys2Proof.Machine

set_option Elab.async false

open Sys2Proof

section Finding

variable {s : State} {g : Feeder} {spec : PlySpec} {b : BinId} {x : Sheet}

/-! ## Eligible bins (R144 to R146) -/

theorem PlySpec.admits_iff :
    spec.admits x = true ↔
      x.cls ∈ spec.classes ∧ (spec.width = none ∨ spec.width = some x.width) ∧ spec.species.getLsbD x.species = true ∧
        x.held = false := by
  unfold PlySpec.admits
  rcases spec.width with _ | w <;> simp [and_assoc]

theorem BinRec.reservedBy_eq_false {r : BinRec} : r.reservedBy g = false ↔ ∀ y ∈ r.stack, y.reserved ≠ some g := by
  simp [BinRec.reservedBy]

/-- The effective top is the highest record that this feeder has not reserved, in a bin where the other has reserved
nothing (R145). -/
theorem BinRec.effectiveTop_eq_some {r : BinRec} :
    r.effectiveTop g = some x ↔
      (∀ y ∈ r.stack, y.reserved ≠ some g.other) ∧
        ∃ below above, r.stack = below ++ x :: above ∧ (∀ y ∈ above, y.reserved = some g) ∧ x.reserved = none := by
  have hfeeder (o : Option Feeder) (h : o ≠ some g.other) : o ≠ some g ↔ o = none := by
    rcases o with _ | f
    · simp
    · cases f <;> cases g <;> simp_all [Feeder.other]
  unfold BinRec.effectiveTop
  cases hother : r.reservedBy g.other with
  | true =>
    have hnot : ¬∀ y ∈ r.stack, y.reserved ≠ some g.other := fun hall => by
      rw [BinRec.reservedBy_eq_false.2 hall] at hother
      cases hother
    simp [hnot]
  | false =>
    have hall := BinRec.reservedBy_eq_false.1 hother
    rw [if_neg (by simp), find?_reverse_eq_some, and_iff_right hall]
    refine exists_congr fun below => exists_congr fun above => and_congr_right fun hstack => and_congr ?_ ?_
    · simp only [bne_eq_false_iff_eq]
    · have hx : x ∈ r.stack := by simp [hstack]
      rw [bne_iff_ne, hfeeder _ (hall x hx)]

theorem State.eligible_eq_some :
    s.eligible g spec b = some x ↔
      ((s.bin b).state = .service ∨ (s.bin b).state = .drain) ∧ s.inbound b = 0 ∧
        ((s.bin b).claim = none ∨ (s.bin b).claim = some g) ∧
        (∀ y ∈ (s.bin b).stack, y.reserved ≠ some g.other) ∧
        (∃ below above, (s.bin b).stack = below ++ x :: above ∧ (∀ y ∈ above, y.reserved = some g) ∧
          x.reserved = none) ∧
        x.cls ∈ spec.classes ∧ (spec.width = none ∨ spec.width = some x.width) ∧
        spec.species.getLsbD x.species = true ∧ x.held = false := by
  have htop := BinRec.effectiveTop_eq_some (r := s.bin b) (g := g) (x := x)
  rw [← BinState.working_iff, ← PlySpec.admits_iff]
  unfold State.eligible
  dsimp only
  split
  · rename_i h
    obtain ⟨hworking, hinbound, hclaim⟩ := h
    rw [Option.filter_eq_some_iff, htop, and_assoc, and_iff_right hworking, and_iff_right hinbound, and_iff_right hclaim]
  · rename_i h
    refine ⟨nofun, fun ⟨hworking, hinbound, hclaim, _⟩ => absurd ⟨hworking, hinbound, hclaim⟩ h⟩

/-! ## The best of the bins (R146, R148) -/

theorem Candidate.before_iff {x y : Candidate} :
    x.before y = true ↔ x.place < y.place ∨ x.place = y.place ∧ x.height < y.height := by
  simp [Candidate.before]

theorem Candidate.not_before_iff {x y : Candidate} :
    x.before y = false ↔ y.place < x.place ∨ x.place = y.place ∧ y.height ≤ x.height := by
  rw [← Bool.not_eq_true, Candidate.before_iff]
  omega

theorem State.bestBin_eq_none {offers : BinId → Option Sheet} : s.bestBin spec offers = none ↔ ∀ b, offers b = none := by
  simp [State.bestBin, pickBest_eq_none, List.filterMap_eq_nil_iff, mem_binsInOrder]

/-- Every other bin that offers a record comes behind the best one, by the place of the class, then by the greater stack,
then by the higher number. -/
theorem State.bestBin_eq_some {offers : BinId → Option Sheet} {c : Candidate} (h : s.bestBin spec offers = some c) :
    offers c.bin = some c.sheet ∧
      ∀ b x, b ≠ c.bin → offers b = some x →
        spec.classes.idxOf c.sheet.cls < spec.classes.idxOf x.cls ∨
        spec.classes.idxOf c.sheet.cls = spec.classes.idxOf x.cls ∧
          ((s.bin c.bin).stack.length < (s.bin b).stack.length ∨
            (s.bin c.bin).stack.length = (s.bin b).stack.length ∧ c.bin < b) := by
  have hfields {b : BinId} {y : Candidate} (hy : (offers b).map (fun x =>
      (⟨b, x, spec.classes.idxOf x.cls, (s.bin b).stack.length⟩ : Candidate)) = some y) :
      y.bin = b ∧ offers b = some y.sheet ∧ y.place = spec.classes.idxOf y.sheet.cls ∧
        y.height = (s.bin b).stack.length := by
    obtain ⟨x, hx, rfl⟩ := Option.map_eq_some_iff.1 hy
    exact ⟨rfl, hx, rfl, rfl⟩
  obtain ⟨hoffer, hbest⟩ := pickBest_binsInOrder (bin := Candidate.bin)
    (fun a => Candidate.not_before_iff.2 (.inr ⟨rfl, le_refl _⟩))
    (fun a b hab => by rw [Candidate.before_iff] at hab; rw [Candidate.not_before_iff]; omega)
    (fun a b c hab hbc => by rw [Candidate.not_before_iff] at *; omega) (fun hx => (hfields hx).1) h
  obtain ⟨-, hsheet, hplace, hheight⟩ := hfields hoffer
  refine ⟨hsheet, fun b x hne hx => ?_⟩
  have hbeaten := hbest b _ hne (congrArg (Option.map _) hx)
  rw [Candidate.before_iff, Candidate.not_before_iff, hplace, hheight] at hbeaten
  rcases hbeaten with (hplace' | ⟨hplace', hheight'⟩) | ⟨hplace' | ⟨hplace', hheight'⟩, hlt⟩
  · exact .inl hplace'
  · exact .inr ⟨hplace', .inl hheight'⟩
  · exact .inl hplace'
  · rcases Nat.eq_or_lt_of_le hheight' with heq | hless
    · exact .inr ⟨hplace'.symm, .inr ⟨heq, hlt⟩⟩
    · exact .inr ⟨hplace'.symm, .inl hless⟩

/-- The target of a wait is the best blocked candidate (R148). -/
theorem State.bestBlocked_bestBin (s : State) (g : Feeder) (spec : PlySpec) :
    s.BestBlocked g spec ((s.bestBin spec (s.blocked g spec)).map (·.bin)) := by
  refine ⟨fun hnone b x hx => ?_, fun b hb => ?_⟩
  · rw [Option.map_eq_none_iff, State.bestBin_eq_none] at hnone
    rw [← State.blocked_eq_some, hnone b] at hx
    cases hx
  · obtain ⟨c, hc, rfl⟩ := Option.map_eq_some_iff.1 hb
    obtain ⟨hsheet, hbest⟩ := State.bestBin_eq_some hc
    exact ⟨c.sheet, State.blocked_eq_some.1 hsheet, fun b' x' hne hx' => hbest b' x' hne (State.blocked_eq_some.2 hx')⟩

end Finding

/-- Settles O47: eligibility spelled out, and the three keys of the choice. -/
theorem bestEligibleBin : Obligations.BestEligibleBin := fun _ _ _ =>
  ⟨fun _ _ => State.eligible_eq_some, State.bestBin_eq_none, fun _ => State.bestBin_eq_some⟩

end Sys2Proof.Machine
end

section
/-! A feeder taken in a search round, and the round as a run of turns (R147, R149, R153 to R155). -/

namespace Sys2Proof.Machine

set_option Elab.async false

open Sys2Proof

/-! ## Several records sent to a feeder's port -/

section Sends

variable {s t : State} {g : Feeder}

theorem State.port_sends_ne (s : State) {p q : Port} (h : q ≠ p) (l : List OutcomeRec) :
    (l.foldl (fun u o => u.send p o) s).port q = s.port q := by
  induction l generalizing s with
  | nil => rfl
  | cons o l ih => exact (ih _).trans (State.port_send_ne s h o)

/-- A grant step that sends the records `l` and leaves the feeder `g` the record `r`. -/
structure State.Reports (s : State) (g : Feeder) (l : List OutcomeRec) (r : FeederRec) (t : State) : Prop where
  feeder : t.feeder g = r
  other : t.feeder g.other = s.feeder g.other
  ports : t.ports = (l.foldl (fun u o => u.send (.feeder g) o) s).ports

theorem State.Reports.trans {u : State} {l m : List OutcomeRec} {r r' : FeederRec} (h : s.Reports g l r t)
    (h' : t.Reports g m r' u) : s.Reports g (l ++ m) r' u where
  feeder := h'.feeder
  other := h'.other.trans h.other
  ports := by
    rw [List.foldl_append]
    exact h'.ports.trans (State.sends_congr h.ports _ _)

/-- The records and the feeder's record of a step, as functions of the feeder's record before it. -/
theorem State.Reports.bind {u : State} {l : List OutcomeRec} {r : FeederRec} {m : FeederRec → List OutcomeRec}
    {k : FeederRec → FeederRec} (h : s.Reports g l r t) (h' : t.Reports g (m (t.feeder g)) (k (t.feeder g)) u) :
    s.Reports g (l ++ m r) (k r) u := by
  rw [h.feeder] at h'
  exact h.trans h'

theorem reports_nil (h : t.feeder g = s.feeder g) (ho : t.feeder g.other = s.feeder g.other) (hp : t.ports = s.ports) :
    s.Reports g [] (s.feeder g) t := ⟨h, ho, hp⟩

theorem reports_send (s : State) (g : Feeder) (o : OutcomeRec) :
    s.Reports g [o] (s.feeder g) (s.send (.feeder g) o) := ⟨s.feeder_send _ o g, s.feeder_send _ o _, rfl⟩

theorem reports_setFeeder (s : State) (g : Feeder) (r : FeederRec) : s.Reports g [] r (s.setFeeder g r) :=
  ⟨State.feeder_setFeeder_self _ g r, State.feeder_setFeeder_ne _ (feeder_other_ne g) r, State.setFeeder_ports s g r⟩

end Sends

/-! ## The recipe position (R129 to R131) -/

/-- What a regular grant does to the feeder's record and sends to its port (R129, R130). -/
def FeederRec.advanced (r : FeederRec) : FeederRec × List OutcomeRec :=
  match r.recipes.head?, r.position with
  | some head, some n =>
    if n < head.plies.length then ({ r with position := some (n + 1) }, [])
    else (r.consumed.1,
      [.recipeConsumed head.number r.consumed.2 r.consumed.1.recipes.length (headNumber r.consumed.1.recipes)])
  | _, _ => (r, [])

theorem reports_advanceRecipe (s : State) (g : Feeder) :
    s.Reports g (s.feeder g).advanced.2 (s.feeder g).advanced.1 (s.advanceRecipe g) := by
  unfold State.advanceRecipe FeederRec.advanced
  dsimp only
  cases (s.feeder g).recipes.head? with
  | none => exact reports_nil rfl rfl rfl
  | some head =>
    cases (s.feeder g).position with
    | none => exact reports_nil rfl rfl rfl
    | some n =>
      dsimp only
      split
      · exact reports_setFeeder s g _
      · have hsent := reports_send (s.setFeeder g (s.feeder g).consumed.1) g (.recipeConsumed head.number
          (s.feeder g).consumed.2 (s.feeder g).consumed.1.recipes.length (headNumber (s.feeder g).consumed.1.recipes))
        rw [State.feeder_setFeeder_self] at hsent
        exact (reports_setFeeder s g _).trans hsent

/-- An advance leaves the call's plies, grants and slot. -/
theorem FeederRec.advanced_eq (r : FeederRec) :
    r.advanced.1 = { r with recipes := r.advanced.1.recipes, position := r.advanced.1.position } := by
  obtain ⟨recipes, position, heq⟩ := r.consumed_eq
  unfold FeederRec.advanced
  split
  · split
    · rfl
    · dsimp only
      rw [heq]
  · rfl

theorem FeederRec.advanced_within {r : FeederRec} {head : Recipe} {rest : List Recipe} {n : Nat}
    (hr : r.recipes = head :: rest) (hn : r.position = some n) (hlt : n < head.plies.length) :
    r.advanced = ({ r with position := some (n + 1) }, []) := by
  unfold FeederRec.advanced
  rw [hr, hn]
  exact if_pos hlt

theorem FeederRec.advanced_consumed {r : FeederRec} {head : Recipe} {rest : List Recipe} {n : Nat}
    (hr : r.recipes = head :: rest) (hn : r.position = some n) (hle : head.plies.length ≤ n) :
    r.advanced = (r.consumed.1,
      [.recipeConsumed head.number r.consumed.2 r.consumed.1.recipes.length (headNumber r.consumed.1.recipes)]) := by
  unfold FeederRec.advanced
  rw [hr, hn]
  exact if_neg (Nat.not_lt.2 hle)

theorem FeederRec.consumed_next {r : FeederRec} {head second : Recipe} {more : List Recipe}
    (hr : r.recipes = head :: second :: more) :
    r.consumed = ({ r with recipes := second :: more, position := some 1 }, .next) := by
  unfold FeederRec.consumed
  rw [hr]

theorem FeederRec.consumed_last {r : FeederRec} {head : Recipe} (hr : r.recipes = [head]) :
    (r.mode = .repeating → r.consumed = ({ r with recipes := [head], position := some 1 }, .repeated)) ∧
      (r.mode = .runOut → r.consumed = ({ r with recipes := [], position := none }, .empty)) := by
  unfold FeederRec.consumed
  rw [hr]
  dsimp only
  refine ⟨fun hm => ?_, fun hm => ?_⟩ <;> rw [hm]

/-! ## The grant of a front ply (R147, R155) -/

section Granting

variable {s : State} {g : Feeder} {e : PlyEntry} {b : BinId} {x : Sheet}

/-- The CALL END COMPLETE a grant brings (R155). -/
def FeederRec.completed (r : FeederRec) (patch : Bool) : List OutcomeRec :=
  if patch then [.callEnd .complete true false 1 0 0]
  else if r.unserved = [] then [.callEnd .complete false false r.grants.length 0 0] else []

theorem reports_endComplete (s : State) (g : Feeder) (patch : Bool) :
    s.Reports g ((s.feeder g).completed patch) (s.feeder g) (s.endComplete g patch) := by
  unfold State.endComplete FeederRec.completed
  split
  · exact reports_send s g _
  · split
    · exact reports_send s g _
    · exact reports_nil rfl rfl rfl

/-- The feeder's record after the grant of its front ply, with what follows the GRANT outcome (R129, R147, R155). -/
def FeederRec.granting (r : FeederRec) (x : Grant) : FeederRec × List OutcomeRec :=
  let r' := r.withGrant x
  let out := if x.entry.regular then r'.advanced else (r', [])
  (out.1, out.2 ++ out.1.completed x.entry.origin.isPatch)

theorem State.reports_grantPly (s : State) (g : Feeder) (e : PlyEntry) (b : BinId) (x : Sheet) :
    s.Reports g (.grant x.store b x.cls e.origin e.reServed :: ((s.feeder g).granting ⟨e, b, x.store⟩).2)
      ((s.feeder g).granting ⟨e, b, x.store⟩).1 (s.grantPly g e b x) := by
  have hset : s.Reports g [] ((s.feeder g).withGrant ⟨e, b, x.store⟩)
      ((s.setBin b ((s.bin b).mark x.store (some g))).setFeeder g ((s.feeder g).withGrant ⟨e, b, x.store⟩)) :=
    ⟨State.feeder_setFeeder_self _ g _, State.feeder_setFeeder_ne _ (feeder_other_ne g) _, State.setFeeder_ports _ g _⟩
  have hclaim (t : State) (c : Bool) : t.Reports g [] (t.feeder g) (if c then t.clearClaim g else t) := by
    split
    · exact ⟨t.feeder_clearClaim g g, t.feeder_clearClaim g _, rfl⟩
    · exact reports_nil rfl rfl rfl
  have hadvance (t : State) (c : Bool) : t.Reports g (if c then (t.feeder g).advanced else (t.feeder g, [])).2
      (if c then (t.feeder g).advanced else (t.feeder g, [])).1 (if c then t.advanceRecipe g else t) := by
    split
    · exact reports_advanceRecipe t g
    · exact reports_nil rfl rfl rfl
  have hfirst (t : State) (f : Feeder) : t.Reports g [] (t.feeder g) { t with firstTurn := f } :=
    ⟨by cases g <;> rfl, by cases g <;> rfl, rfl⟩
  have hsent := (hset.bind (m := fun _ => []) (k := id) (hclaim _ (s.feeder g).waiting.isSome)).bind
    (m := fun _ => [_]) (k := id) (reports_send _ g (.grant x.store b x.cls e.origin e.reServed))
  have hended := (hsent.bind (m := fun r => (if e.regular then r.advanced else (r, [])).2)
    (k := fun r => (if e.regular then r.advanced else (r, [])).1) (hadvance _ e.regular)).bind
    (m := fun r => r.completed e.origin.isPatch) (k := id) (reports_endComplete _ g e.origin.isPatch)
  have hpassed := hended.bind (m := fun _ => []) (k := id) (hfirst _ g.other)
  rw [List.append_nil] at hpassed
  exact hpassed

theorem FeederRec.granting_patch {r : FeederRec} {x : Grant} (hp : x.entry.origin.isPatch = true) :
    r.granting x = ({ r with patch := .granted x, waiting := none }, [.callEnd .complete true false 1 0 0]) := by
  have hregular : x.entry.regular = false := by rw [PlyEntry.regular, hp]; rfl
  unfold FeederRec.granting FeederRec.withGrant FeederRec.completed
  rw [hregular, hp]
  rfl

/-- The record of the feeder with a call ply granted (R147). -/
def FeederRec.granted (r : FeederRec) (x : Grant) : FeederRec :=
  { r with unserved := r.unserved.tail, grants := r.grants ++ [x], waiting := none }

/-- The CALL END COMPLETE that the grant of a call ply brings (R155). -/
def FeederRec.ended (r : FeederRec) : List OutcomeRec :=
  if r.unserved.tail = [] then [.callEnd .complete false false (r.grants.length + 1) 0 0] else []

theorem FeederRec.completed_granted (r : FeederRec) (x : Grant) : (r.granted x).completed false = r.ended := by
  unfold FeederRec.completed FeederRec.ended FeederRec.granted
  simp

theorem FeederRec.granting_reServed {r : FeederRec} {x : Grant} (hp : x.entry.origin.isPatch = false)
    (hr : x.entry.reServed = true) : r.granting x = (r.granted x, r.ended) := by
  have hregular : x.entry.regular = false := by rw [PlyEntry.regular, hp, hr]; rfl
  have hwith : r.withGrant x = r.granted x := if_neg (by rw [hp]; exact nofun)
  unfold FeederRec.granting
  dsimp only
  rw [hregular, hp, hwith, ← r.completed_granted x]
  rfl

theorem FeederRec.granting_regular {r : FeederRec} {x : Grant} (hp : x.entry.origin.isPatch = false)
    (hr : x.entry.reServed = false) :
    r.granting x = ((r.granted x).advanced.1, (r.granted x).advanced.2 ++ r.ended) := by
  have hregular : x.entry.regular = true := by rw [PlyEntry.regular, hp, hr]; rfl
  have hwith : r.withGrant x = r.granted x := if_neg (by rw [hp]; exact nofun)
  have hended : (r.granted x).advanced.1.completed false = r.ended := by
    rw [← r.completed_granted x, FeederRec.advanced_eq]
    rfl
  unfold FeederRec.granting
  dsimp only
  rw [hregular, hp, hwith, if_pos rfl, hended]

/-- The record and the later outcomes of the grant of a call ply: the recipe and the position alone depend on the queue. -/
theorem FeederRec.granting_call {r : FeederRec} {x : Grant} (hp : x.entry.origin.isPatch = false) :
    (r.granting x).1 = { r.granted x with recipes := (r.granting x).1.recipes, position := (r.granting x).1.position } := by
  cases hr : x.entry.reServed with
  | true =>
    rw [FeederRec.granting_reServed hp hr]
  | false =>
    rw [FeederRec.granting_regular hp hr]
    exact FeederRec.advanced_eq _

/-- A grant brings at most two records behind its GRANT. -/
theorem FeederRec.length_granting (r : FeederRec) (x : Grant) : (r.granting x).2.length ≤ 2 := by
  have hadvanced (q : FeederRec) : q.advanced.2.length ≤ 1 := by
    unfold FeederRec.advanced
    split
    · split
      · exact Nat.zero_le 1
      · exact le_refl 1
    · exact Nat.zero_le 1
  have hcompleted (q : FeederRec) (p : Bool) : (q.completed p).length ≤ 1 := by
    unfold FeederRec.completed
    split
    · exact le_refl 1
    · split
      · exact le_refl 1
      · exact Nat.zero_le 1
  unfold FeederRec.granting
  dsimp only
  rw [List.length_append]
  refine Nat.add_le_add ?_ (hcompleted _ _)
  split
  · exact hadvanced _
  · exact Nat.zero_le 1

/-- The grant of a regular ply that is not the head's last (R129). -/
theorem FeederRec.granting_within {r : FeederRec} {x : Grant} {head : Recipe} {rest : List Recipe} {n : Nat}
    (hp : x.entry.origin.isPatch = false) (hr : x.entry.reServed = false) (hrecipes : r.recipes = head :: rest)
    (hn : r.position = some n) (hlt : n < head.plies.length) :
    r.granting x = ({ r.granted x with position := some (n + 1) }, r.ended) := by
  rw [FeederRec.granting_regular hp hr, FeederRec.advanced_within (r := r.granted x) hrecipes hn hlt]
  rfl

/-- The grant of the head's last ply consumes the recipe (R130). -/
theorem FeederRec.granting_last {r : FeederRec} {x : Grant} {head : Recipe} {rest : List Recipe} {n : Nat}
    {r' : FeederRec} {followed : Followed} (hp : x.entry.origin.isPatch = false) (hr : x.entry.reServed = false)
    (hrecipes : r.recipes = head :: rest) (hn : r.position = some n) (hle : head.plies.length ≤ n)
    (hconsumed : (r.granted x).consumed = (r', followed)) :
    r.granting x =
      (r', .recipeConsumed head.number followed r'.recipes.length (headNumber r'.recipes) :: r.ended) := by
  rw [FeederRec.granting_regular hp hr, FeederRec.advanced_consumed (r := r.granted x) hrecipes hn hle, hconsumed]
  rfl

end Granting

/-! ## The feeder that waits (R149, R154) -/

section Waiting

variable {s : State} {g : Feeder} {e : PlyEntry}

theorem callFrame_claimTarget (s : State) (f : Feeder) (target : Option BinId) : s.CallFrame (s.claimTarget f target) := by
  unfold State.claimTarget
  split
  · exact .refl s
  · split
    · exact callFrame_setBin s _ _
    · exact .refl s

theorem State.claimTarget_feeders (s : State) (f : Feeder) (target : Option BinId) :
    (s.claimTarget f target).feeders = s.feeders := by
  unfold State.claimTarget
  split
  · rfl
  · split <;> rfl

theorem State.claimTarget_ports (s : State) (f : Feeder) (target : Option BinId) :
    (s.claimTarget f target).ports = s.ports := by
  unfold State.claimTarget
  split
  · rfl
  · split <;> rfl

/-- What a turn that grants nothing does: the wait, and the claim on its target; `left` where an old target was left with its
claim (R149, R154). -/
structure State.Waits (s : State) (g : Feeder) (w : Wait) (left : Bool) (t : State) : Prop where
  frame : t = { s with bins := t.bins, feeders := t.feeders }
  feeder : t.feeder g = { s.feeder g with waiting := some w }
  other : t.feeder g.other = s.feeder g.other
  bins : ∀ b, t.bin b = { s.bin b with
    claim := if w.target = some b ∧ (if left ∧ (s.bin b).claim = some g then none else (s.bin b).claim) = none then some g
      else if left ∧ (s.bin b).claim = some g then none else (s.bin b).claim }

theorem waits_startWait (s : State) (g : Feeder) (e : PlyEntry) {target : Option BinId}
    (ht : (s.bestBin e.spec (s.blocked g e.spec)).map (·.bin) = target) :
    s.Waits g ⟨target, s.now + (s.feeder g).timeout * 1000⟩ false (s.startWait g e) := by
  subst ht
  refine ⟨((callFrame_setFeeder s g _).trans (callFrame_claimTarget _ g _)).of_ports ?_, ?_, ?_, fun b => ?_⟩
  · exact (State.claimTarget_ports _ g _).trans (State.setFeeder_ports s g _)
  · exact (State.feeder_congr (State.claimTarget_feeders _ g _) g).trans (State.feeder_setFeeder_self s g _)
  · exact (State.feeder_congr (State.claimTarget_feeders _ g _) _).trans
      (State.feeder_setFeeder_ne s (feeder_other_ne g) _)
  · unfold State.startWait
    dsimp only
    rw [State.bin_claimTarget, State.bin_setFeeder]
    simp

/-- An old target that stays (R154). -/
theorem waits_stays {w : Wait} (hw : (s.feeder g).waiting = some w) (h : s.targetStays g e w.target = true) :
    s.Waits g w false (s.reconsider g e w) := by
  have heq : s.reconsider g e w = s.claimTarget g w.target := if_pos h
  have hsame : s.feeder g = { s.feeder g with waiting := some w } := by rw [← hw]
  rw [heq]
  refine ⟨(callFrame_claimTarget s g _).of_ports (State.claimTarget_ports s g _), ?_, ?_, fun b => ?_⟩
  · exact (State.feeder_congr (State.claimTarget_feeders s g _) g).trans hsame
  · exact State.feeder_congr (State.claimTarget_feeders s g _) _
  · rw [State.bin_claimTarget]
    simp

/-- An old target left with its claim (R154). -/
theorem waits_left {w : Wait} (h : s.targetStays g e w.target = false) {target : Option BinId}
    (ht : (s.bestBin e.spec (s.blocked g e.spec)).map (·.bin) = target) :
    s.Waits g { w with target := target } true (s.reconsider g e w) := by
  subst ht
  have heq : s.reconsider g e w = ((s.clearClaim g).setFeeder g { s.feeder g with
      waiting := some { w with target := (s.bestBin e.spec (s.blocked g e.spec)).map (·.bin) } }).claimTarget g
        ((s.bestBin e.spec (s.blocked g e.spec)).map (·.bin)) := if_neg (by rw [h]; exact nofun)
  rw [heq]
  refine ⟨(((callFrame_clearClaim s g).trans (callFrame_setFeeder _ g _)).trans
    (callFrame_claimTarget _ g _)).of_ports ?_, ?_, ?_, fun b => ?_⟩
  · exact (State.claimTarget_ports _ g _).trans (State.setFeeder_ports (s.clearClaim g) g _)
  · exact (State.feeder_congr (State.claimTarget_feeders _ g _) g).trans (State.feeder_setFeeder_self _ g _)
  · exact (State.feeder_congr (State.claimTarget_feeders _ g _) _).trans
      ((State.feeder_setFeeder_ne _ (feeder_other_ne g) _).trans (s.feeder_clearClaim g _))
  · rw [State.bin_claimTarget, State.bin_setFeeder, State.bin_clearClaim]
    simp

theorem State.targetStays_iff {target : Option BinId} :
    s.targetStays g e target = true ↔
      ∃ b, target = some b ∧ ((∃ x, s.BlockedBin g e.spec b x) ∨ (s.bin b).state = .check) := by
  have hblocked (b : BinId) : (s.blocked g e.spec b).isSome = true ↔ ∃ x, s.BlockedBin g e.spec b x := by
    simp only [Option.isSome_iff_exists, State.blocked_eq_some]
  cases target with
  | none => simp [State.targetStays]
  | some b => simp [State.targetStays, hblocked]

/-- A feeder that claims nothing but one bin claims the bin its claim names. -/
theorem State.claimOf_iff {target : Option BinId} (h : ∀ b, (s.bin b).claim = some g → target = some b) (b : BinId) :
    s.claimOf g = some b ↔ (s.bin b).claim = some g := by
  refine ⟨fun hb => by simpa using List.find?_some hb, fun hb => State.claimOf_eq_some hb fun c hc => ?_⟩
  exact Option.some.inj ((h c hc).symm.trans (h b hb))

/-- The claim of such a feeder changes when some bin's claim by it does (R153). -/
theorem State.claimOf_ne_iff {t : State} {x y : Option BinId} (hs : ∀ b, (s.bin b).claim = some g → x = some b)
    (ht : ∀ b, (t.bin b).claim = some g → y = some b) :
    t.claimOf g ≠ s.claimOf g ↔ ∃ b, ¬((s.bin b).claim = some g ↔ (t.bin b).claim = some g) := by
  rw [Ne, Option.ext_iff, not_forall]
  refine exists_congr fun b => not_congr ?_
  rw [State.claimOf_iff hs, State.claimOf_iff ht]
  exact iff_comm

/-- After a turn that waits, the feeder claims nothing but its target. -/
theorem State.Waits.claims {w : Wait} {left : Bool} {t : State} (h : s.Waits g w left t)
    (hold : left = false → ∀ b, (s.bin b).claim = some g → w.target = some b) :
    ∀ b, (t.bin b).claim = some g → w.target = some b := by
  intro b hb
  rw [h.bins b] at hb
  by_cases hw : w.target = some b
  · exact hw
  · dsimp only at hb
    rw [if_neg fun hc => hw hc.1] at hb
    split at hb
    · cases hb
    · rename_i hc
      cases left with
      | false => exact hold rfl b hb
      | true => exact absurd ⟨rfl, hb⟩ hc

end Waiting

/-! ## The round as a run of turns (R152, R153) -/

section Rounds

variable (s : State) (g : Feeder)

/-- The feeder of turn `k` of a round that takes `g` first. -/
def turnOf (g : Feeder) (k : Nat) : Feeder := if k % 2 = 0 then g else g.other

/-- The state after `k` turns. -/
def State.afterTurns (s : State) (g : Feeder) : Nat → State
  | 0 => s
  | k + 1 => ((s.afterTurns g k).serveFeeder (turnOf g k)).1

/-- Turn `k` made no grant, began no wait and changed no claim. -/
def State.QuietTurn (s : State) (g : Feeder) (k : Nat) : Prop :=
  ((s.afterTurns g k).serveFeeder (turnOf g k)).2 = false

theorem turnOf_succ (g : Feeder) (k : Nat) : turnOf g (k + 1) = (turnOf g k).other := by
  unfold turnOf
  rcases Nat.mod_two_eq_zero_or_one k with h | h
  · have hodd : ¬(k + 1) % 2 = 0 := by omega
    rw [if_pos h, if_neg hodd]
  · have hodd : ¬k % 2 = 0 := by omega
    have heven : (k + 1) % 2 = 0 := by omega
    rw [if_pos heven, if_neg hodd]
    cases g <;> rfl

/-- The round from turn `j` on, with `k` turns left: it ends at the first two quiet turns in a row, or with its turns. -/
theorem State.roundFrom_turns (k j q : Nat) (hquiet : q = 0 ∨ 1 ≤ j ∧ s.QuietTurn g (j - 1))
    (hloud : q = 0 → j = 0 ∨ ¬s.QuietTurn g (j - 1)) (hbefore : ∀ i, i + 1 < j → ¬(s.QuietTurn g i ∧ s.QuietTurn g (i + 1))) :
    ∃ n, (s.afterTurns g j).roundFrom k (turnOf g j) q = s.afterTurns g n ∧ n ≤ j + k ∧
      (∀ i, i + 2 < n → ¬(s.QuietTurn g i ∧ s.QuietTurn g (i + 1))) ∧
      (n = j + k ∨ 2 ≤ n ∧ s.QuietTurn g (n - 2) ∧ s.QuietTurn g (n - 1)) := by
  induction k generalizing j q with
  | zero => exact ⟨j, rfl, le_refl j, fun i hi => hbefore i (by omega), .inl rfl⟩
  | succ k ih =>
    have hnext : ((s.afterTurns g j).serveFeeder (turnOf g j)).1 = s.afterTurns g (j + 1) := rfl
    unfold State.roundFrom
    dsimp only
    rw [hnext, ← turnOf_succ]
    have harith : j + 1 + k = j + (k + 1) := by omega
    cases hturn : ((s.afterTurns g j).serveFeeder (turnOf g j)).2 with
    | true =>
      have hnow : ¬s.QuietTurn g j := fun h => by rw [State.QuietTurn, hturn] at h; cases h
      rw [if_pos rfl, ← harith]
      refine ih (j + 1) 0 (.inl rfl) (fun _ => .inr hnow) fun i hi hboth => ?_
      rcases Nat.lt_or_ge (i + 1) j with hlt | hge
      · exact hbefore i hlt hboth
      · exact hnow ((show i + 1 = j by omega) ▸ hboth.2)
    | false =>
      rw [if_neg (by decide)]
      split
      · rename_i hq
        rw [← harith]
        refine ih (j + 1) 1 (.inr ⟨Nat.le_add_left 1 j, hturn⟩) nofun fun i hi hboth => ?_
        rcases Nat.lt_or_ge (i + 1) j with hlt | hge
        · exact hbefore i hlt hboth
        · rcases hloud hq with hzero | hprev
          · omega
          · exact hprev ((show i = j - 1 by omega) ▸ hboth.1)
      · rename_i hq
        obtain ⟨hj, hprev⟩ := hquiet.resolve_left hq
        exact ⟨j + 1, rfl, by omega, fun i hi => hbefore i (by omega), .inr ⟨by omega, hprev, hturn⟩⟩

end Rounds

end Sys2Proof.Machine
end

section
/-! The settled statement of the search round (R147, R149, R153 to R155). -/

namespace Sys2Proof.Machine

set_option Elab.async false

open Sys2Proof

section Turns

variable {s : State} {g : Feeder} {e : PlyEntry}

theorem State.serveFeeder_idle (h : (s.feeder g).front = none) : s.serveFeeder g = (s, false) := by
  unfold State.serveFeeder
  rw [h]

theorem State.serveFeeder_grant {c : Candidate} (h : (s.feeder g).front = some e)
    (hc : s.bestBin e.spec (s.eligible g e.spec) = some c) :
    s.serveFeeder g = (s.grantPly g e c.bin c.sheet, true) := by
  unfold State.serveFeeder
  rw [h]
  dsimp only
  rw [hc]

theorem State.serveFeeder_startWait (h : (s.feeder g).front = some e)
    (hc : s.bestBin e.spec (s.eligible g e.spec) = none) (hw : (s.feeder g).waiting = none) :
    s.serveFeeder g = (s.startWait g e, true) := by
  unfold State.serveFeeder
  rw [h]
  dsimp only
  rw [hc, hw]

theorem State.serveFeeder_reconsider {w : Wait} (h : (s.feeder g).front = some e)
    (hc : s.bestBin e.spec (s.eligible g e.spec) = none) (hw : (s.feeder g).waiting = some w) :
    s.serveFeeder g = (s.reconsider g e w, decide ((s.reconsider g e w).claimOf g ≠ s.claimOf g)) := by
  unfold State.serveFeeder
  rw [h]
  dsimp only
  rw [hc, hw]

/-- The wait of a feeder ends with its grant (R147). -/
theorem FeederRec.granting_waiting (r : FeederRec) (x : Grant) : (r.granting x).1.waiting = none := by
  cases hp : x.entry.origin.isPatch with
  | true => rw [FeederRec.granting_patch hp]
  | false =>
    rw [FeederRec.granting_call hp]
    rfl

/-- What stands in a port's queue after records with room for them all. -/
theorem State.Reports.port {t : State} {l : List OutcomeRec} {r : FeederRec} (h : s.Reports g l r t)
    (hroom : (s.port (.feeder g)).outcomes.length + l.length ≤ 8) :
    t.port (.feeder g) = { s.port (.feeder g) with outcomes := (s.port (.feeder g)).outcomes ++ l } := by
  rw [State.port_congr h.ports, State.sends_room l hroom, State.port_setPort_self]

theorem State.Reports.port_other {t : State} {l : List OutcomeRec} {r : FeederRec} (h : s.Reports g l r t) :
    t.port (.feeder g.other) = s.port (.feeder g.other) := by
  have hne : Port.feeder g.other ≠ Port.feeder g := fun hp => feeder_other_ne g (Port.feeder.inj hp)
  exact (State.port_congr h.ports _).trans (State.port_sends_ne s hne l)

/-- The consumption of the head recipe by the grant of its last ply, by what stands behind it (R130, R131). -/
theorem FeederRec.granting_consumed {r : FeederRec} {x : Grant} {head : Recipe} {rest : List Recipe} {n : Nat}
    (hp : x.entry.origin.isPatch = false) (hr : x.entry.reServed = false) (hrecipes : r.recipes = head :: rest)
    (hn : r.position = some n) (hle : head.plies.length ≤ n) :
    (∀ second more, rest = second :: more → (r.granting x).1.recipes = rest ∧ (r.granting x).1.position = some 1 ∧
      (r.granting x).2 = .recipeConsumed head.number .next rest.length second.number :: r.ended) ∧
    (rest = [] → r.mode = .repeating → (r.granting x).1.recipes = [head] ∧ (r.granting x).1.position = some 1 ∧
      (r.granting x).2 = .recipeConsumed head.number .repeated 1 head.number :: r.ended) ∧
    (rest = [] → r.mode = .runOut → (r.granting x).1.recipes = [] ∧ (r.granting x).1.position = none ∧
      (r.granting x).2 = .recipeConsumed head.number .empty 0 0 :: r.ended) := by
  refine ⟨fun second more hrest => ?_, fun hrest hmode => ?_, fun hrest hmode => ?_⟩
  · subst hrest
    rw [FeederRec.granting_last hp hr hrecipes hn hle (FeederRec.consumed_next (r := r.granted x) hrecipes)]
    exact ⟨rfl, rfl, rfl⟩
  · subst hrest
    rw [FeederRec.granting_last hp hr hrecipes hn hle ((FeederRec.consumed_last (r := r.granted x) hrecipes).1 hmode)]
    exact ⟨rfl, rfl, rfl⟩
  · subst hrest
    rw [FeederRec.granting_last hp hr hrecipes hn hle ((FeederRec.consumed_last (r := r.granted x) hrecipes).2 hmode)]
    exact ⟨rfl, rfl, rfl⟩

/-- A turn without an eligible bin: the wait that begins, or the old one with its target kept or left (R149, R154). -/
theorem State.serveFeeder_waits (hfront : (s.feeder g).front = some e)
    (hnone : s.bestBin e.spec (s.eligible g e.spec) = none) :
    ∃ (t : State) (changed : Bool) (w : Wait) (left : Bool), s.serveFeeder g = (t, changed) ∧ s.Waits g w left t ∧
      ((s.feeder g).waiting = none → changed = true ∧ ¬left ∧ w.expiry = s.now + (s.feeder g).timeout * 1000 ∧
        s.BestBlocked g e.spec w.target) ∧
      ∀ old, (s.feeder g).waiting = some old → w.expiry = old.expiry ∧
        (left ↔ ¬∃ b, old.target = some b ∧ ((∃ x, s.BlockedBin g e.spec b x) ∨ (s.bin b).state = .check)) ∧
        (¬left → w.target = old.target) ∧ (left → s.BestBlocked g e.spec w.target) ∧
        ((∀ b, (s.bin b).claim = some g → old.target = some b) →
          (changed = true ↔ ∃ b, ¬((s.bin b).claim = some g ↔ (t.bin b).claim = some g))) := by
  cases hw : (s.feeder g).waiting with
  | none =>
    exact ⟨_, _, _, false, State.serveFeeder_startWait hfront hnone hw, waits_startWait s g e rfl,
      fun _ => ⟨rfl, nofun, rfl, s.bestBlocked_bestBin g e.spec⟩, nofun⟩
  | some old =>
    have hserve := State.serveFeeder_reconsider hfront hnone hw
    have hchanged {w : Wait} {left : Bool} (hwaits : s.Waits g w left (s.reconsider g e old))
        (hkept : left = false → w.target = old.target) (hold : ∀ b, (s.bin b).claim = some g → old.target = some b) :
        decide ((s.reconsider g e old).claimOf g ≠ s.claimOf g) = true ↔
          ∃ b, ¬((s.bin b).claim = some g ↔ ((s.reconsider g e old).bin b).claim = some g) := by
      rw [decide_eq_true_iff]
      exact State.claimOf_ne_iff hold (hwaits.claims fun hl b hb => (hkept hl).trans (hold b hb))
    cases hstays : s.targetStays g e old.target with
    | true =>
      have hwaits := waits_stays hw hstays
      refine ⟨_, _, old, false, hserve, hwaits, nofun, ?_⟩
      rintro _ ⟨rfl⟩
      exact ⟨rfl, iff_of_false nofun (not_not.2 (State.targetStays_iff.1 hstays)), fun _ => rfl, nofun,
        hchanged hwaits fun _ => rfl⟩
    | false =>
      have hwaits := waits_left hstays rfl
      refine ⟨_, _, _, true, hserve, hwaits, nofun, ?_⟩
      rintro _ ⟨rfl⟩
      refine ⟨rfl, iff_of_true rfl fun h => ?_, fun h => absurd rfl h, fun _ => s.bestBlocked_bestBin g e.spec,
        hchanged hwaits nofun⟩
      rw [State.targetStays_iff.2 h] at hstays
      cases hstays

end Turns

/-- Settles O48: the turn of a feeder, by its front ply and the bins, and the round as a run of turns. -/
theorem frontPlyServed : Obligations.FrontPlyServed := by
  refine ⟨fun s g => ⟨State.serveFeeder_idle, fun e hfront => ⟨fun c hc => ?_, fun hnone => ?_⟩⟩, fun s g => ?_⟩
  · have hreports := s.reports_grantPly g e c.bin c.sheet
    obtain ⟨x, hx⟩ : ∃ x : Grant, x = ⟨e, c.bin, c.sheet.store⟩ := ⟨_, rfl⟩
    have hentry : x.entry = e := by rw [hx]
    rw [← hx] at hreports
    have hfeeder := hreports.feeder
    have hlength := (s.feeder g).length_granting x
    refine ⟨_, ((s.feeder g).granting x).2, (s.feeder g).ended, State.serveFeeder_grant hfront hc, rfl, ?_,
      s.roundFrame_grantPly g e c.bin c.sheet, hreports.other, hreports.port_other, s.bin_grantPly g e c.bin c.sheet,
      hreports.ports, fun hroom => hreports.port (by rw [List.length_cons]; omega), fun hpatch => ?_, fun hpatch => ?_⟩
    · rw [hfeeder]
      exact (s.feeder g).granting_waiting x
    · rw [hfeeder, FeederRec.granting_patch (hentry.symm ▸ hpatch), hx]
      exact ⟨rfl, rfl⟩
    · have hcall : x.entry.origin.isPatch = false := hentry.symm ▸ hpatch
      rw [hfeeder]
      refine ⟨rfl, ?_, fun hre => ?_, fun hre head rest n hrecipes hn => ⟨fun hlt => ?_, fun hle => ?_⟩⟩
      · rw [← hx]
        exact FeederRec.granting_call hcall
      · rw [FeederRec.granting_reServed hcall (hentry.symm ▸ hre)]
        exact ⟨rfl, rfl, rfl⟩
      · rw [FeederRec.granting_within hcall (hentry.symm ▸ hre) hrecipes hn hlt]
        exact ⟨hrecipes, rfl, rfl⟩
      · exact FeederRec.granting_consumed hcall (hentry.symm ▸ hre) hrecipes hn hle
  · obtain ⟨t, changed, w, left, hserve, hwaits, hnew, hold⟩ := State.serveFeeder_waits hfront hnone
    exact ⟨t, changed, w, left = true, fun b => if left = true ∧ (s.bin b).claim = some g then none else (s.bin b).claim,
      hserve, hwaits.frame, hwaits.feeder, hwaits.other, hwaits.bins, fun b => ⟨fun h => if_pos h, fun h => if_neg h⟩,
      hnew, hold⟩
  · obtain ⟨n, hrun, hmost, hquiet, hend⟩ := s.roundFrom_turns g Config.searchRoundTurns 0 0 (.inl rfl) (fun _ => .inl rfl)
      fun i hi => absurd hi (by omega)
    rw [Nat.zero_add] at hmost hend
    exact ⟨rfl, s.roundFrame_searchRoundBy g, s.afterTurns g, turnOf g, s.QuietTurn g, n, rfl, fun k => rfl, fun k => rfl,
      fun k => Iff.rfl, hrun, hmost, hquiet, hend⟩

end Sys2Proof.Machine
end

section
/-! LAYOUT WRITE (R172, R173). -/

namespace Sys2Proof.Machine

set_option Elab.async false

open Sys2Proof

section Write

variable {p : Port} {f : Frame} {s : State} {l : List Byte}

theorem exec_layoutWrite_unfit (h : s.asks p 0x18 f) (hfit : layoutWriteFits f.payload = false) :
    exec (.layoutWrite p f) s = .next (s.answer p ⟨.badArg, []⟩) := by
  refine exec_answer rfl h ?_
  change layoutWriteBody p f.payload s = refuse .badArg s
  rw [layoutWriteBody, hfit]
  rfl

theorem exec_layoutWrite_malformed (h : s.asks p 0x18 f) (hfit : layoutWriteFits f.payload = true)
    (hgroup : s.pendingLayout.withGroup f.payload = none) :
    exec (.layoutWrite p f) s = .next (s.answer p ⟨.badArg, []⟩) := by
  refine exec_answer rfl h ?_
  change layoutWriteBody p f.payload s = refuse .badArg s
  rw [layoutWriteBody, hfit, hgroup]
  rfl

variable {sent kept : Layout}

theorem exec_layoutWrite_running (h : s.asks p 0x18 f) (hfit : layoutWriteFits f.payload = true)
    (hgroup : s.pendingLayout.withGroup f.payload = some (sent, kept)) (hmode : s.mode = .run) :
    exec (.layoutWrite p f) s = .next (s.answer p ⟨.wrongState, []⟩) := by
  refine exec_answer rfl h ?_
  change layoutWriteBody p f.payload s = refuse .wrongState s
  rw [layoutWriteBody, hfit, hgroup, hmode]
  rfl

/-- A group accepted: the pending copy takes the fields sent, clamped. -/
theorem exec_layoutWrite (h : s.asks p 0x18 f) (hfit : layoutWriteFits f.payload = true)
    (hgroup : s.pendingLayout.withGroup f.payload = some (sent, kept)) (hmode : s.mode = .setup) {g : Nat} {c : Prop}
    [Decidable c] (hg : byteAt f.payload 0 = g) (hsame : kept = sent ↔ c) :
    exec (.layoutWrite p f) s =
      .next (({ s with pendingLayout := kept } : State).answer p
        ⟨if c then .ok else .clamped, u8 g :: kept.groupBytes g⟩) := by
  subst hg
  refine exec_answer rfl h ?_
  change layoutWriteBody p f.payload s = _
  rw [layoutWriteBody, hfit, hgroup, hmode, ← if_congr hsame rfl rfl]
  rfl

theorem layoutWriteFits_of {g : Byte} {rest : List Byte} (hl : l = g :: rest)
    (h : layoutGroupLength g.toNat = some rest.length) : layoutWriteFits l = true := by
  subst hl
  simp [layoutWriteFits, h, Nat.add_comm]

theorem layoutWriteFits_of_ne {g : Byte} {rest : List Byte} (hl : l = g :: rest)
    (h : layoutGroupLength g.toNat ≠ some rest.length) : layoutWriteFits l = false := by
  subst hl
  unfold layoutWriteFits
  rw [byteAt_cons_zero]
  cases hlen : layoutGroupLength g.toNat with
  | none => rfl
  | some n =>
    have hne : n ≠ rest.length := fun hn => h (hn ▸ hlen)
    rw [beq_eq_false_iff_ne, List.length_cons]
    omega

end Write

/-! ## The length and the mode byte of a group (R171) -/

theorem layoutGroupLength_binNumber (b : BinId) : layoutGroupLength (binNumber b) = some 5 := by
  have hne : binNumber b ≠ 0 := Nat.succ_ne_zero _
  rw [layoutGroupLength, if_neg hne, binOfGroup, binOfNumber_binNumber]
  rfl

theorem layoutGroupLength_ne {g n : Nat} (h : 16 < g ∨ g = 0 ∧ n ≠ 17 ∨ g ≠ 0 ∧ n ≠ 5) :
    layoutGroupLength g ≠ some n := by
  unfold layoutGroupLength
  by_cases hg : g = 0
  · rw [if_pos hg]
    intro hn
    cases hn
    omega
  · rw [if_neg hg]
    intro hn
    obtain ⟨b, hb, rfl⟩ := Option.map_eq_some_iff.mp hn
    have hnumber : ¬ (g = 0 ∨ 16 < g) := fun hout => by
      rw [binOfGroup, binOfNumber_eq_none.mpr hout] at hb
      cases hb
    omega

theorem GradeClass.ofCode_eq_none {n : Nat} (h : 7 < n) : GradeClass.ofCode n = none := by
  rcases n with _ | _ | _ | _ | _ | _ | _ | _ | n
  case succ.succ.succ.succ.succ.succ.succ.succ => rfl
  all_goals omega

theorem GradeClass.ofCode_of_le {n : Nat} (h : n ≤ 7) : ∃ c, GradeClass.ofCode n = some c ∧ c.code = n := by
  revert n
  decide

theorem layoutMode_eq_none {mode : Byte} (h : 7 < mode.toNat) (hfloat : mode ≠ 0xFF) : layoutMode mode.toNat = none := by
  have hne : mode.toNat ≠ 0xFF := fun hn => hfloat (BitVec.eq_of_toNat_eq hn)
  rw [layoutMode, if_neg hne, GradeClass.ofCode_eq_none h]
  rfl

theorem layoutMode_eq_some {mode : Byte} (h : mode.toNat ≤ 7 ∨ mode = 0xFF) :
    ∃ m, layoutMode mode.toNat = some m ∧ (mode = 0xFF → m = none) ∧
      (mode ≠ 0xFF → ∃ c : GradeClass, m = some c ∧ c.code = mode.toNat) := by
  by_cases hfloat : mode = 0xFF
  · exact ⟨none, by rw [hfloat]; rfl, fun _ => rfl, fun hne => absurd hfloat hne⟩
  · have hne : mode.toNat ≠ 0xFF := fun hn => hfloat (BitVec.eq_of_toNat_eq hn)
    obtain ⟨c, hc, hcode⟩ := GradeClass.ofCode_of_le (h.resolve_right hfloat)
    exact ⟨some c, by rw [layoutMode, if_neg hne, hc]; rfl, fun heq => absurd heq hfloat, fun _ => ⟨c, rfl, hcode⟩⟩

/-! ## The line group -/

section Line

variable {y : Layout}

theorem Layout.withGroup_line {l : List Byte} (h : byteAt l 0 = 0) :
    y.withGroup l = some (y.withLine l, (y.withLine l).clampLine) := by
  rw [Layout.withGroup, h]
  rfl

/-- The line group as sent, in its layout (R171). -/
theorem Layout.withLine_bytes (lanes divide tol qLow qHigh nLost nBack : Byte) (q a t e w : BitVec 16) :
    y.withLine (0 :: lanes :: divide :: (be16 q.toNat ++ be16 a.toNat ++ be16 t.toNat ++ be16 e.toNat ++ [tol] ++
        be16 w.toNat ++ [qLow, qHigh, nLost, nBack])) =
      { y with
        laneCount := lanes.toNat, divide := divide.toNat, decision := q.toNat, lead := a.toNat, tail := t.toNat
        lineEnd := e.toNat, tolerance := tol.toNat, window := w.toNat, qLow := qLow.toNat, qHigh := qHigh.toNat
        nLost := nLost.toNat, nBack := nBack.toNat } := by
  simp only [Layout.withLine, nat16At, be16, List.cons_append, List.nil_append, byteAt_cons_succ, byteAt_cons_zero,
    toNat_u8, join_bytes16, Nat.mod_eq_of_lt (BitVec.isLt _)]

theorem Layout.clampLine_eq (lanes divide q a t e tol w qLow qHigh nLost nBack : Nat) :
    ({ y with
        laneCount := lanes, divide := divide, decision := q, lead := a, tail := t, lineEnd := e, tolerance := tol
        window := w, qLow := qLow, qHigh := qHigh, nLost := nLost, nBack := nBack } : Layout).clampLine =
      { y with
        laneCount := max 1 (min 8 lanes), divide := clampDivide divide, decision := max 3200 (min 27000 q)
        lead := min 400 a, tail := min 400 t, lineEnd := max 4000 (min 29000 e), tolerance := min 100 tol
        window := max 50 (min 2000 w), qLow := qLow, qHigh := qHigh, nLost := max 1 (min 15 nLost)
        nBack := max 1 (min 63 nBack) } := by
  simp only [Layout.clampLine, clamp_zero]
  rfl

theorem clampDivide_eq_self_iff {n : Nat} : clampDivide n = n ↔ n = 1 ∨ n = 2 ∨ n = 4 ∨ n = 8 := by
  unfold clampDivide
  split_ifs <;> omega

theorem bounded_eq_self_iff {lo hi v : Nat} (h : lo ≤ hi) : max lo (min hi v) = v ↔ lo ≤ v ∧ v ≤ hi :=
  clamp_eq_self_iff h

theorem Layout.clampLine_eq_iff (lanes divide q a t e tol w qLow qHigh nLost nBack : Nat) :
    ({ y with
        laneCount := max 1 (min 8 lanes), divide := clampDivide divide, decision := max 3200 (min 27000 q)
        lead := min 400 a, tail := min 400 t, lineEnd := max 4000 (min 29000 e), tolerance := min 100 tol
        window := max 50 (min 2000 w), qLow := qLow, qHigh := qHigh, nLost := max 1 (min 15 nLost)
        nBack := max 1 (min 63 nBack) } : Layout) =
      { y with
        laneCount := lanes, divide := divide, decision := q, lead := a, tail := t, lineEnd := e, tolerance := tol
        window := w, qLow := qLow, qHigh := qHigh, nLost := nLost, nBack := nBack } ↔
      1 ≤ lanes ∧ lanes ≤ 8 ∧ (divide = 1 ∨ divide = 2 ∨ divide = 4 ∨ divide = 8) ∧ 3200 ≤ q ∧ q ≤ 27000 ∧ a ≤ 400 ∧
        t ≤ 400 ∧ 4000 ≤ e ∧ e ≤ 29000 ∧ tol ≤ 100 ∧ 50 ≤ w ∧ w ≤ 2000 ∧ 1 ≤ nLost ∧ nLost ≤ 15 ∧ 1 ≤ nBack ∧
        nBack ≤ 63 := by
  simp only [Layout.mk.injEq, clampDivide_eq_self_iff, bounded_eq_self_iff (lo := 1) (hi := 8) (by decide),
    bounded_eq_self_iff (lo := 3200) (hi := 27000) (by decide), bounded_eq_self_iff (lo := 4000) (hi := 29000) (by decide),
    bounded_eq_self_iff (lo := 50) (hi := 2000) (by decide), bounded_eq_self_iff (lo := 1) (hi := 15) (by decide),
    bounded_eq_self_iff (lo := 1) (hi := 63) (by decide), min_eq_right_iff, true_and, and_true, and_assoc]

end Line

/-! ## A bin group -/

section Bin

variable {y : Layout} {b : BinId} {l : List Byte}

theorem Layout.withGroup_bin (h : byteAt l 0 = binNumber b) :
    y.withGroup l =
      if 1 < byteAt l 1 then none
      else (layoutMode (byteAt l 5)).map fun m =>
        ({ y with bins := y.bins.set b (sentBin l m) }, { y with bins := y.bins.set b (sentBin l m).clamped }) := by
  rw [Layout.withGroup, h, binOfGroup, binOfNumber_binNumber]

theorem Layout.groupBytes_bin (x : BinLayout) :
    ({ y with bins := y.bins.set b x } : Layout).groupBytes (binNumber b) = x.bytes := by
  rw [Layout.groupBytes, binOfGroup, binOfNumber_binNumber]
  simp

theorem Layout.bins_set_inj {x x' : BinLayout} :
    ({ y with bins := y.bins.set b x } : Layout) = { y with bins := y.bins.set b x' } ↔ x = x' := by
  refine ⟨fun h => ?_, fun h => by rw [h]⟩
  have hget := congrArg (fun z : Layout => z.bins[b]) h
  simpa using hget

/-- A bin group as sent, in its layout (R171). -/
theorem sentBin_bytes (n fitted capacity mode : Byte) (g : BitVec 16) (m : Option GradeClass) :
    sentBin (n :: fitted :: (be16 g.toNat ++ [capacity, mode])) m = ⟨fitted == 1, g.toNat, capacity.toNat, m⟩ := by
  simp only [sentBin, nat16At, be16, List.cons_append, List.nil_append, byteAt_cons_succ, byteAt_cons_zero,
    beq_one_toNat, toNat_u8, join_bytes16, Nat.mod_eq_of_lt (BitVec.isLt _)]

theorem BinLayout.clamped_eq_iff (fitted : Bool) (g capacity : Nat) (m : Option GradeClass) :
    (⟨fitted, g, capacity, m⟩ : BinLayout).clamped = ⟨fitted, g, capacity, m⟩ ↔
      3500 ≤ g ∧ g ≤ 28000 ∧ 10 ≤ capacity ∧ capacity ≤ 200 := by
  simp only [BinLayout.clamped, BinLayout.mk.injEq, true_and, and_true, clamp]
  omega

end Bin

/-- Settles O49: the line group and a bin group by the fields they send and their clamps. -/
theorem layoutWrite : Obligations.LayoutWrite := by
  intro p f s h
  refine ⟨fun hbad => exec_layoutWrite_unfit h ?_, fun lanes divide tol qLow qHigh nLost nBack q a t e w hf => ?_,
    fun b fitted capacity mode g hf => ?_⟩
  · rcases hbad with hnil | ⟨g, rest, hl, hlen⟩
    · rw [hnil]
      rfl
    · exact layoutWriteFits_of_ne hl (layoutGroupLength_ne (by simpa [BitVec.toNat_eq] using hlen))
  · have hfit : layoutWriteFits f.payload = true := layoutWriteFits_of hf rfl
    have hfirst : byteAt f.payload 0 = 0 := by rw [hf]; rfl
    have hgroup := Layout.withGroup_line (y := s.pendingLayout) hfirst
    rw [hf, Layout.withLine_bytes, Layout.clampLine_eq, ← hf] at hgroup
    exact ⟨exec_layoutWrite_running h hfit hgroup, fun hmode =>
      ⟨_, rfl, exec_layoutWrite h hfit hgroup hmode hfirst (Layout.clampLine_eq_iff ..)⟩⟩
  · have hfirst : byteAt f.payload 0 = binNumber b := by rw [hf, byteAt_cons_zero, toNat_u8_binNumber]
    have hfit : layoutWriteFits f.payload = true :=
      layoutWriteFits_of hf (by rw [toNat_u8_binNumber]; exact layoutGroupLength_binNumber b)
    have hfitted : byteAt f.payload 1 = fitted.toNat := by rw [hf]; rfl
    have hmodeByte : byteAt f.payload 5 = mode.toNat := by rw [hf]; rfl
    have hgroup := Layout.withGroup_bin (y := s.pendingLayout) hfirst
    rw [hfitted, hmodeByte] at hgroup
    refine ⟨fun hbad => exec_layoutWrite_malformed h hfit ?_, fun hle hmode => ?_⟩
    · rcases hbad with hbig | ⟨hcode, hfloat⟩
      · rw [hgroup, if_pos hbig]
      · rw [hgroup, layoutMode_eq_none hcode hfloat, Option.map_none, ite_self]
    · obtain ⟨m, hm, hfloat, hfixed⟩ := layoutMode_eq_some hmode
      rw [if_neg (Nat.not_lt.mpr hle), hm, Option.map_some, hf, sentBin_bytes, ← hf] at hgroup
      refine ⟨exec_layoutWrite_running h hfit hgroup, fun hsetup =>
        ⟨(⟨fitted == 1, g.toNat, capacity.toNat, m⟩ : BinLayout).clamped, rfl, rfl, rfl, hfloat, hfixed, ?_⟩⟩
      rw [← Layout.groupBytes_bin (y := s.pendingLayout)]
      exact exec_layoutWrite h hfit hgroup hsetup hfirst (Layout.bins_set_inj.trans (BinLayout.clamped_eq_iff ..))

end Sys2Proof.Machine
end

section
/-! The validation of ENTER RUN (R176): the checks of one bin, and the first bin that fails one. -/

namespace Sys2Proof.Machine

set_option Elab.async false

open Sys2Proof

section Checks

variable {s : State} {b : BinId}

theorem State.holdsSheets_iff :
    s.holdsSheets b = true ↔
      (s.bin b).state ≠ .off ∧ ((s.bin b).stack ≠ [] ∨ 0 < s.inbound b ∨ (s.bin b).questioned ≠ none) := by
  simp [State.holdsSheets, or_assoc, Option.isSome_iff_ne_none]

theorem State.not_holdsSheets_iff :
    s.holdsSheets b = false ↔
      (s.bin b).state = .off ∨ (s.bin b).stack = [] ∧ s.inbound b = 0 ∧ (s.bin b).questioned = none := by
  rw [← Bool.not_eq_true, State.holdsSheets_iff]
  by_cases hoff : (s.bin b).state = .off <;> simp [hoff, Nat.pos_iff_ne_zero]

theorem State.binFault_fitted (h : s.pendingLayout.bins[b].fitted = true) :
    s.binFault b =
      if s.pendingLayout.bins[b].gate < s.pendingLayout.decision + s.pendingLayout.lead then some ⟨3, binNumber b, 1⟩
      else if s.pendingLayout.lineEnd ≤ s.pendingLayout.bins[b].gate + s.pendingLayout.tail then some ⟨4, binNumber b, 1⟩
      else none :=
  if_pos h

theorem State.binFault_unfitted (h : s.pendingLayout.bins[b].fitted = false) :
    s.binFault b = if s.holdsSheets b then some ⟨5, binNumber b, 0⟩ else none :=
  if_neg (Bool.not_eq_true _ ▸ h)

theorem State.binFault_eq_none :
    s.binFault b = none ↔
      (s.pendingLayout.bins[b].fitted = true →
        s.pendingLayout.decision + s.pendingLayout.lead ≤ s.pendingLayout.bins[b].gate ∧
          s.pendingLayout.bins[b].gate + s.pendingLayout.tail < s.pendingLayout.lineEnd) ∧
      (s.pendingLayout.bins[b].fitted = false →
        (s.bin b).state = .off ∨ (s.bin b).stack = [] ∧ s.inbound b = 0 ∧ (s.bin b).questioned = none) := by
  cases hfit : s.pendingLayout.bins[b].fitted with
  | true =>
    rw [State.binFault_fitted hfit]
    simp only [forall_const, reduceCtorEq, IsEmpty.forall_iff, and_true]
    split_ifs with hlead htail
    · exact ⟨nofun, fun h => absurd hlead (Nat.not_lt.mpr h.1)⟩
    · exact ⟨nofun, fun h => absurd htail (Nat.not_le.mpr h.2)⟩
    · exact ⟨fun _ => ⟨Nat.not_lt.mp hlead, Nat.not_le.mp htail⟩, fun _ => rfl⟩
  | false => simp [State.binFault_unfitted hfit, ← State.not_holdsSheets_iff]

theorem State.binFault_eq_some {x : LayoutFault} (h : s.binFault b = some x) :
    x.group = binNumber b ∧
      (x.check = 3 ∧ x.field = 1 ∧ s.pendingLayout.bins[b].fitted = true ∧
          s.pendingLayout.bins[b].gate < s.pendingLayout.decision + s.pendingLayout.lead ∨
        x.check = 4 ∧ x.field = 1 ∧ s.pendingLayout.bins[b].fitted = true ∧
          s.pendingLayout.decision + s.pendingLayout.lead ≤ s.pendingLayout.bins[b].gate ∧
          s.pendingLayout.lineEnd ≤ s.pendingLayout.bins[b].gate + s.pendingLayout.tail ∨
        x.check = 5 ∧ x.field = 0 ∧ s.pendingLayout.bins[b].fitted = false ∧ (s.bin b).state ≠ .off ∧
          ((s.bin b).stack ≠ [] ∨ 0 < s.inbound b ∨ (s.bin b).questioned ≠ none)) := by
  cases hfit : s.pendingLayout.bins[b].fitted with
  | true =>
    rw [State.binFault_fitted hfit] at h
    split_ifs at h with hlead htail
    · obtain rfl := Option.some.inj h
      exact ⟨rfl, .inl ⟨rfl, rfl, rfl, hlead⟩⟩
    · obtain rfl := Option.some.inj h
      exact ⟨rfl, .inr (.inl ⟨rfl, rfl, rfl, Nat.not_lt.mp hlead, htail⟩)⟩
  | false =>
    rw [State.binFault_unfitted hfit] at h
    split_ifs at h with hholds
    obtain rfl := Option.some.inj h
    exact ⟨rfl, .inr (.inr ⟨rfl, rfl, rfl, State.holdsSheets_iff.mp hholds⟩)⟩

/-- The first bin that fails a check is the one the validation names. -/
theorem findSome?_binsInOrder {α : Type} {g : BinId → Option α} {x : α} (h : binsInOrder.findSome? g = some x) :
    ∃ b, g b = some x ∧ ∀ b' < b, g b' = none := by
  obtain ⟨front, b, behind, hsplit, hb, hfront⟩ := List.findSome?_eq_some_iff.mp h
  refine ⟨b, hb, fun b' hlt => hfront b' ?_⟩
  have hmem : b' ∈ front ++ b :: behind := hsplit ▸ mem_binsInOrder b'
  have hbehind : ∀ c ∈ behind, b < c := by
    have hpairs := binsInOrder_pairwise_lt
    rw [hsplit, List.pairwise_append, List.pairwise_cons] at hpairs
    exact hpairs.2.1.1
  rcases List.mem_append.mp hmem with hin | hin
  · exact hin
  · rcases List.mem_cons.mp hin with heq | hin
    · exact absurd heq hlt.ne
    · exact absurd (hbehind b' hin) hlt.asymm

end Checks

/-- Settles O50: the two checks of the line, then the bins in their order. -/
theorem layoutValidation : Obligations.LayoutValidation := by
  intro s
  refine ⟨fun hlow => if_pos hlow, fun hlow hdecision => (if_neg (Nat.not_le.mpr hlow)).trans (if_pos hdecision), ?_, ?_⟩
  · unfold State.layoutFault
    split_ifs with hlow hdecision
    · simp [hlow]
    · simp [hdecision]
    · simp only [Nat.not_le.mp hlow, Nat.not_le.mp hdecision, true_and, List.findSome?_eq_none_iff, mem_binsInOrder,
        forall_const, State.binFault_eq_none]
  · intro x hx hcheck
    unfold State.layoutFault at hx
    split_ifs at hx with hlow hdecision
    · obtain rfl := Option.some.inj hx
      exact absurd hcheck (by decide)
    · obtain rfl := Option.some.inj hx
      exact absurd hcheck (by decide)
    · obtain ⟨b, hb, hfirst⟩ := findSome?_binsInOrder hx
      obtain ⟨hgroup, hwhich⟩ := State.binFault_eq_some hb
      exact ⟨b, hgroup, hfirst, hwhich⟩

end Sys2Proof.Machine
end

section
/-! ENTER RUN and ENTER SETUP (R15, R16, R122, R176, R177, R179). -/

namespace Sys2Proof.Machine

set_option Elab.async false

open Sys2Proof

/-! ## The adjustment to the new layout (R15, R122) -/

theorem thresholdsDiffer_eq_false {old new : Layout} :
    thresholdsDiffer old new = false ↔
      old.qLow = new.qLow ∧ old.qHigh = new.qHigh ∧ old.nLost = new.nLost ∧ old.nBack = new.nBack := by
  simp [thresholdsDiffer, and_assoc]

theorem LaneRec.restarted_eq (r : LaneRec) :
    r.restarted = ⟨if r.state = .good ∨ r.state = .suspect then .good else .lost, 0, 0, 0⟩ := by
  unfold LaneRec.restarted
  cases r.state <;> rfl

theorem BinRec.holdsRecord_iff {r : BinRec} :
    r.holdsRecord = true ↔ r.stack ≠ [] ∨ r.inFlight ≠ [] ∨ r.questioned ≠ none := by
  simp [BinRec.holdsRecord, Option.isSome_iff_ne_none, or_assoc]

/-- A fitted bin takes its mode and limits from the layout, an OFF one enters SERVICE, and a FLOAT bin keeps its class while it
holds a record. -/
theorem BinRec.adjusted_fitted (r : BinRec) {x : BinLayout} (h : x.fitted = true) :
    r.adjusted x = { r with
      state := if r.state = .off then .service else r.state
      mode := if x.fixedClass = none then .float else .fixed
      capacity := x.capacity, gate := x.gate
      current := x.fixedClass.or
        (if r.state ≠ .off ∧ (r.stack ≠ [] ∨ r.inFlight ≠ [] ∨ r.questioned ≠ none) then r.current else none) } := by
  have hmode : x.mode = if x.fixedClass = none then .float else .fixed := by
    unfold BinLayout.mode
    cases x.fixedClass <;> rfl
  rw [BinRec.adjusted, if_pos h, hmode]
  by_cases hoff : r.state = .off
  · simp only [hoff, ne_eq, not_true_eq_false, false_and, if_true, if_false, Option.or_none]
  · simp only [hoff, ne_eq, not_false_eq_true, true_and, if_false, ← BinRec.holdsRecord_iff]
    cases x.fixedClass <;> rfl

theorem BinRec.adjusted_unfitted (r : BinRec) {x : BinLayout} (h : x.fitted = false) :
    r.adjusted x = { r with
      state := .off, mode := .float, current := none, stray := false, uncertain := false, claim := none
      resume := none, capacity := x.capacity, gate := x.gate } :=
  if_neg (Bool.not_eq_true _ ▸ h)

theorem BinRec.adjusted_claim (r : BinRec) (x : BinLayout) :
    (r.adjusted x).claim = if x.fitted then r.claim else none := by
  cases h : x.fitted with
  | true => rw [BinRec.adjusted_fitted r h, if_pos rfl]
  | false => rw [BinRec.adjusted_unfitted r h, if_neg Bool.false_ne_true]

section EnterRun

variable {s u v : State}

theorem State.bin_adjusted (s : State) (b : BinId) :
    s.adjusted.bin b = (s.bin b).adjusted s.pendingLayout.bins[b] :=
  congrArg Site.bin (s.site_adjusted b)

theorem State.lane_adjusted (s : State) (i : LaneId) :
    s.adjusted.lanes[i] =
      if s.pendingLayout.laneCount ≤ i.val then {}
      else if thresholdsDiffer s.activeLayout s.pendingLayout then s.lanes[i].restarted else s.lanes[i] :=
  tabulateLanes_getElem _ i

theorem State.binsChanged_iff :
    u.binsChanged s = true ↔
      ∃ b, (u.bin b).state ≠ (s.bin b).state ∨ (s.bin b).claim ≠ none ∧ (u.bin b).claim = none := by
  simp only [State.binsChanged, List.any_eq_true, mem_binsInOrder, true_and, Bool.or_eq_true, bne_iff_ne,
    Bool.and_eq_true, Option.isSome_iff_ne_none, Option.isNone_iff_eq_none]

/-- The adjustment, with the round where a bin's state has changed or a claim was cleared. -/
def State.adjustedRound (s : State) : State := if s.adjusted.binsChanged s then s.adjusted.searchRound else s.adjusted

theorem State.enterRun_eq_adjustedRound (s : State) : s.enterRun = s.adjustedRound.takeConditions s := rfl

theorem State.roundFrame_adjustedRound (s : State) : s.adjusted.RoundFrame s.adjustedRound := by
  unfold State.adjustedRound
  split
  · exact State.roundFrame_searchRound _
  · exact .refl _

theorem State.restKept_adjustedRound (s : State) (b : BinId) : State.RestKept b s.adjusted s.adjustedRound := by
  unfold State.adjustedRound
  split
  · exact restKept_searchRound _
  · exact .refl b _

/-- What a round and the conditions leave: all but the bins, the feeders and the ports. -/
theorem State.eq_afterRound (hround : u.RoundFrame v) (before : State) :
    v.takeConditions before =
      { u with
        bins := v.bins, feeders := v.feeders, firstTurn := v.firstTurn, ports := (v.takeConditions before).ports } :=
  (v.takeConditions_eq before).trans
    (congrArg (fun w : State => { w with ports := (v.takeConditions before).ports }) hround.eq)

theorem State.enterRun_frame (s : State) :
    ∃ bins feeders turn ports, s.enterRun =
      { s.adjusted with bins := bins, feeders := feeders, firstTurn := turn, ports := ports } :=
  ⟨_, _, _, _, State.eq_afterRound s.roundFrame_adjustedRound s⟩

/-- After ENTER RUN a bin's record is the adjusted one, but for the claim and the reservation marks. -/
theorem State.bin_enterRun (s : State) (b : BinId) :
    ((s.bin b).adjusted s.pendingLayout.bins[b]).RoundFrame (s.enterRun.bin b) :=
  s.bin_adjusted b ▸ State.bin_afterRound s.roundFrame_adjustedRound s b

theorem State.claim_enterRun_unfitted {b : BinId} (h : s.pendingLayout.bins[b].fitted = false) :
    (s.enterRun.bin b).claim = none := by
  have hoff : (s.adjusted.bin b).state = .off := by rw [State.bin_adjusted, BinRec.adjusted_unfitted _ h]
  have hclaim : (s.adjusted.bin b).claim = none := by rw [State.bin_adjusted, BinRec.adjusted_unfitted _ h]
  rw [State.enterRun_eq_adjustedRound, State.bin_takeConditions]
  exact (s.restKept_adjustedRound b).claim (by rw [hoff]; rfl) (by rw [hoff]; exact nofun) hclaim

end EnterRun

/-! ## The requests -/

section Requests

variable {p : Port} {f : Frame} {s : State}

theorem exec_enterRun_running (h : s.asks p 0x1A f) (hf : f.payload = []) (hmode : s.mode = .run) :
    exec (.enterRun p f) s = .next (s.answer p ⟨.wrongState, []⟩) := by
  refine exec_answer rfl h ?_
  change enterRunBody p f.payload s = refuse .wrongState s
  rw [hf, enterRunBody, withoutPayload_nil, if_pos hmode]

theorem exec_enterRun_invalid (h : s.asks p 0x1A f) (hf : f.payload = []) (hmode : s.mode = .setup) {x : LayoutFault}
    (hfault : s.layoutFault = some x) :
    exec (.enterRun p f) s = .next (s.answer p ⟨.invalid, [u8 x.check, u8 x.group, u8 x.field]⟩) := by
  refine exec_answer rfl h ?_
  change enterRunBody p f.payload s = _
  rw [hf, enterRunBody, withoutPayload_nil, if_neg (by rw [hmode]; exact nofun), hfault]

theorem exec_enterRun_valid (h : s.asks p 0x1A f) (hf : f.payload = []) (hmode : s.mode = .setup)
    (hfault : s.layoutFault = none) :
    exec (.enterRun p f) s =
      .next (s.enterRun.answer p ⟨.ok, [u8 s.pendingLayout.fittedCount, u8 s.pendingLayout.laneCount]⟩) := by
  refine exec_answer rfl h ?_
  change enterRunBody p f.payload s = _
  rw [hf, enterRunBody, withoutPayload_nil, if_neg (by rw [hmode]; exact nofun), hfault]

theorem State.lineIdle_iff : s.lineIdle = true ↔ s.tracker.queue = [] ∧ s.reports = [] ∧ s.engine = none := by
  simp [State.lineIdle, and_assoc]

theorem exec_enterSetup (h : s.asks p 0x1B f) (hf : f.payload = []) :
    (s.mode = .setup → exec (.enterSetup p f) s = .next (s.answer p ⟨.ok, []⟩)) ∧
      (s.mode = .run → s.lineIdle = false → exec (.enterSetup p f) s = .next (s.answer p ⟨.wrongState, []⟩)) ∧
      (s.mode = .run → s.lineIdle = true →
        exec (.enterSetup p f) s = .next (({ s with mode := .setup } : State).answer p ⟨.ok, []⟩)) := by
  refine ⟨fun hmode => exec_answer rfl h ?_, fun hmode hidle => exec_answer rfl h ?_,
    fun hmode hidle => exec_answer rfl h ?_⟩
  all_goals change enterSetupBody p f.payload s = _
  · rw [hf, enterSetupBody, withoutPayload_nil, hmode]
    rfl
  · rw [hf, enterSetupBody, withoutPayload_nil, hmode, hidle]
    rfl
  · rw [hf, enterSetupBody, withoutPayload_nil, hmode, hidle]
    rfl

end Requests

/-- Settles O51: the state after ENTER RUN is the adjusted one, but for what its search round and the conditions change. -/
theorem enterRunAndEnterSetup : Obligations.EnterRunAndEnterSetup := by
  intro p f s
  refine ⟨fun h => ⟨fun hf => exec_answer rfl h (show enterRunBody p f.payload s = refuse .badArg s from
    withoutPayload_cons hf _ _), exec_enterRun_running h, fun hf hmode => ⟨fun x => exec_enterRun_invalid h hf hmode,
    fun hvalid => ?_⟩⟩, fun h => ⟨fun hf => exec_answer rfl h (show enterSetupBody p f.payload s = refuse .badArg s from
    withoutPayload_cons hf _ _), fun hf => (exec_enterSetup h hf).1, fun hf hmode => ⟨fun hbusy => ?_,
    fun hqueue hreports hengine => ?_⟩⟩⟩
  · obtain ⟨bins, feeders, turn, ports, heq⟩ := s.enterRun_frame
    refine ⟨s.enterRun, s.adjusted, exec_enterRun_valid h hf hmode hvalid, by rw [heq]; rfl, by rw [heq]; rfl,
      by rw [heq]; rfl, by rw [heq]; rfl, fun i => ?_, fun b hfit => ?_, fun b hfit => ?_, by rw [heq]; rfl,
      by rw [heq]; rfl, by rw [heq]; rfl, by rw [heq]; rfl, by rw [heq]; rfl, by rw [heq]; rfl, by rw [heq]; rfl,
      by rw [heq]; rfl, fun b => ?_, fun hchange => ?_, fun hchange => ?_⟩
    · have hlane : s.enterRun.lanes[i] = s.adjusted.lanes[i] := by rw [heq]
      rw [hlane, State.lane_adjusted]
      refine ⟨fun hout => if_pos hout, fun hin => ?_⟩
      rw [if_neg (Nat.not_le.mpr hin), ← thresholdsDiffer_eq_false, LaneRec.restarted_eq]
      exact ⟨fun hsame => if_neg (Bool.not_eq_true _ ▸ hsame), fun hdiffer => if_pos (Bool.not_eq_false _ ▸ hdiffer)⟩
    · obtain ⟨hrec, hstack⟩ := s.bin_enterRun b
      rw [BinRec.adjusted_fitted _ hfit] at hrec hstack
      refine ⟨by rw [hrec], by rw [hrec], by rw [hrec], by rw [hrec], fun c hc => ?_, fun hfloat => ?_, hstack,
        by rw [hrec], by rw [hrec], by rw [hrec], by rw [hrec], by rw [hrec]⟩
      · rw [hrec, hc]
        rfl
      · rw [hrec, hfloat]
        rfl
    · obtain ⟨hrec, -⟩ := s.bin_enterRun b
      rw [BinRec.adjusted_unfitted _ hfit] at hrec
      exact ⟨by rw [hrec], by rw [hrec], by rw [hrec], by rw [hrec], by rw [hrec], State.claim_enterRun_unfitted hfit,
        by rw [hrec], by rw [hrec], by rw [hrec]⟩
    · obtain ⟨hrec, -⟩ := s.bin_enterRun b
      obtain ⟨-, hstack, -, -⟩ := (s.bin b).adjusted_fields s.pendingLayout.bins[b]
      rw [State.bin_adjusted, hrec, ← BinRec.adjusted_claim, ← hstack]
    · rw [State.enterRun_eq, if_pos (State.binsChanged_iff.mpr hchange)]
    · rw [State.enterRun_eq, if_neg (mt State.binsChanged_iff.mp hchange)]
  · refine (exec_enterSetup h hf).2.1 hmode (Bool.not_eq_true _ ▸ fun hidle => ?_)
    obtain ⟨hqueue, hreports, hengine⟩ := State.lineIdle_iff.mp hidle
    exact hbusy.elim (· hqueue) (Or.elim · (· hreports) (· hengine))
  · exact (exec_enterSetup h hf).2.2 hmode (State.lineIdle_iff.mpr ⟨hqueue, hreports, hengine⟩)

end Sys2Proof.Machine
end
